-- ==== Sys2Proof/Word.lean ====
section
/-! DEFINITION. The word types of the controller (00_scope.md R5, R6; 20_memory.md R67). -/
namespace Sys2Proof

/-- One byte: what a bus event moves, a status code, a character (R67). -/
abbrev Byte := BitVec 8

/-- One 16-bit value: a shadow register or an RDS block (R33, R212). -/
abbrev Half := BitVec 16

/-- One 32-bit host word: an argument, a result, a command word (R21, R90). -/
abbrev Word := BitVec 32

end Sys2Proof
end

