-- ==== Sys2Proof/Config.lean ====
section
/-! DEFINITION. What an implementation fixes: the parameters of 00_scope.md R5, held as plain data so that every
statement about a state holds for every value of them; the bus vocabulary; and the values the spec leaves open, as
constants with no body (40_bus.md R113; 92_eei_decisions.md D32, D34). -/
namespace Sys2Proof

/-- One bus event as the bus history records it (10_state.md R42). -/
inductive BusEvent where
  /-- `START(sc)`: a start or repeated start condition and the code it got. -/
  | start (sc : Byte)
  /-- `ADDR(byte, sc)`: an address byte and the code it got. -/
  | addr (byte sc : Byte)
  /-- `TX(byte, sc)`: a data byte sent and the code it got. -/
  | tx (byte sc : Byte)
  /-- `RX(ack, byte, sc)`: a byte received, whether it was answered with ACK, and its code. -/
  | rx (ack : Bool) (byte sc : Byte)
  /-- `STOP`: a stop condition. -/
  | stop
  deriving DecidableEq, Repr

/-- What the controller puts on the bus and the bus environment answers (R113): every event but a stop. -/
inductive BusRequest where
  | start
  | addr (byte : Byte)
  | tx (byte : Byte)
  | rx (ack : Bool)
  deriving DecidableEq, Repr

/-- One answer of the bus environment (R113): a status code, and the byte that a receive takes (the other events
do not look at it). -/
structure BusAnswer where
  sc : Byte
  data : Byte
  deriving DecidableEq, Repr

/-- The status-code table SC of 40_bus.md R118, a parameter. Only the codes of the success sets and `noInfo` decide
anything: every other code is a failure whatever its name. -/
structure StatusCodes where
  start : Byte
  repStart : Byte
  mtSlaAck : Byte
  mtSlaNack : Byte
  mtDataAck : Byte
  mtDataNack : Byte
  arbLost : Byte
  mrSlaAck : Byte
  mrSlaNack : Byte
  mrDataAck : Byte
  mrDataNack : Byte
  noInfo : Byte
  busError : Byte
  deriving DecidableEq, Repr

/-- The lowest bit of each shadow-register field a command interprets (10_state.md R34), a parameter. The registers
the fields lie in and the fields' widths are the source's and are fixed. -/
structure FieldMap where
  /-- Register 2, one bit: soft mute disabled. -/
  dsmute : Nat
  /-- Register 2, one bit: mono. -/
  mono : Nat
  /-- Register 3, one bit: the tune request. -/
  tune : Nat
  /-- Register 3, ten bits: the channel. -/
  chan : Nat
  /-- Register 5, two bits: the band code. -/
  band : Nat
  /-- Register 5, two bits: the spacing code. -/
  space : Nat
  /-- Register 10, one bit: RDS data ready. -/
  rdsr : Nat
  /-- Register 10, one bit: tune complete. -/
  stc : Nat
  /-- Register 10, one bit: stereo indicator. -/
  st : Nat
  /-- Register 10, eight bits: signal level. -/
  rssi : Nat
  /-- Register 11, ten bits: the channel the chip reports. -/
  readchan : Nat
  deriving DecidableEq, Repr

/-- A value for each of the four band codes (42_tuning.md R171). -/
structure PerBand where
  b0 : Nat
  b1 : Nat
  b2 : Nat
  b3 : Nat
  deriving DecidableEq, Repr

/-- A value for each of the three spacing codes in use (R171: code 3 is reserved). -/
structure PerSpace where
  s0 : Nat
  s1 : Nat
  s2 : Nat
  deriving DecidableEq, Repr

/-- The implementation parameters a model takes as an argument (00_scope.md R5; 93_implementation_defined.md §1).
A machine never changes them. -/
structure Params where
  /-- TUNER_ADDR, the tuner's 7-bit bus address (D20). -/
  tunerAddr : BitVec 7
  /-- The status-code table SC (R118). -/
  sc : StatusCodes
  /-- The register field positions (R34). -/
  fields : FieldMap
  /-- BAND_MIN, in units of 10 kHz (R171). -/
  bandMin : PerBand
  /-- BAND_MAX, in units of 10 kHz (R171). -/
  bandMax : PerBand
  /-- SPACING, in units of 10 kHz (R171). -/
  spacing : PerSpace
  /-- PWR_MASK, PWR_SLEEP and PWR_WAKE (R196, R197). -/
  pwrMask : Half
  pwrSleep : Half
  pwrWake : Half
  /-- ID0_EXPECT, ID0_MASK, ID1_EXPECT and ID1_MASK (R184; OPEN). -/
  id0Expect : Half
  id0Mask : Half
  id1Expect : Half
  id1Mask : Half
  /-- MAX_TUNE_POLLS (R178; OPEN): `none` is INF, `some n` the bound n, at least 1. -/
  maxTunePolls : Option Nat
  deriving DecidableEq, Repr

/-- FREE VALUE. What the bus environment answers where a state lists no answer of its own: a status code and a
received byte, unconstrained (40_bus.md R113, D13). It may depend on how many answers were drawn before, on the whole bus
history ("The oracle may read the bus history") and on the request. No body: nothing can be proved of its value. -/
opaque Config.busOracle : Nat → List BusEvent → BusRequest → Byte × Byte

/-- FREE VALUE. The OPEN parameter MAX_TUNE_POLLS (R178, D32); `none` is INF. -/
opaque Config.maxTunePolls : Option Nat

/-- FREE VALUE. The OPEN parameter ID0_EXPECT (R184, D34). -/
opaque Config.id0Expect : Half

/-- FREE VALUE. The OPEN parameter ID0_MASK (R184, D34). -/
opaque Config.id0Mask : Half

/-- FREE VALUE. The OPEN parameter ID1_EXPECT (R184, D34). -/
opaque Config.id1Expect : Half

/-- FREE VALUE. The OPEN parameter ID1_MASK (R184, D34). -/
opaque Config.id1Mask : Half

end Sys2Proof
end

