-- ==== Sys2Proof/Machine/Defaults.lean ====
section
/-! DEFINITION. The values the spec gives the parameters by default (00_scope.md R5; 10_state.md R34; 40_bus.md R118;
42_tuning.md R171, R196, R197), and the free values of Config for the OPEN ones. -/
namespace Sys2Proof.Machine

/-- The status codes of R118 (GK1). -/
def defaultStatusCodes : StatusCodes where
  start := 0x08
  repStart := 0x10
  mtSlaAck := 0x18
  mtSlaNack := 0x20
  mtDataAck := 0x28
  mtDataNack := 0x30
  arbLost := 0x38
  mrSlaAck := 0x40
  mrSlaNack := 0x48
  mrDataAck := 0x50
  mrDataNack := 0x58
  noInfo := 0xF8
  busError := 0x00

/-- The field positions of R34 (GK5). -/
def defaultFields : FieldMap where
  dsmute := 15
  mono := 13
  tune := 15
  chan := 0
  band := 6
  space := 4
  rdsr := 15
  stc := 14
  st := 8
  rssi := 0
  readchan := 0

/-- BAND_MIN of R171 (GK6). -/
def defaultBandMin : PerBand := ⟨8750, 7600, 7600, 7600⟩

/-- BAND_MAX of R171 (D28). -/
def defaultBandMax : PerBand := ⟨10800, 10800, 10800, 10800⟩

/-- SPACING of R171 (GK6). -/
def defaultSpacing : PerSpace := ⟨20, 10, 5⟩

/-- The parameters of the machine after reset: the spec's defaults (R5), and a free value for each OPEN parameter;
a finite MAX_TUNE_POLLS is at least 1 (R178). -/
def defaultParams : Params where
  tunerAddr := 0x10
  sc := defaultStatusCodes
  fields := defaultFields
  bandMin := defaultBandMin
  bandMax := defaultBandMax
  spacing := defaultSpacing
  pwrMask := 0x0041
  pwrSleep := 0x0041
  pwrWake := 0x0001
  id0Expect := Config.id0Expect
  id0Mask := Config.id0Mask
  id1Expect := Config.id1Expect
  id1Mask := Config.id1Mask
  maxTunePolls := Config.maxTunePolls.map (max 1)

end Sys2Proof.Machine
end

