-- ==== Sys2Proof/Machine/State.lean ====
section
/-! DEFINITION. The state of the controller as plain data (10_state.md R20-R44), the reasons a step can stop
(60_exceptions.md R258), and the state after power-on reset (R44, 70_reset_and_hazards.md R270). -/
namespace Sys2Proof.Machine

/-- SEQ, the command sequencer (R22): idle, or polling for the end of a tune. -/
inductive Seq where
  | idle
  | tuning
  deriving DecidableEq, Repr

/-- PHASE, the bus master's position in a transaction (R30). -/
inductive Phase where
  /-- No transaction open, the bus released. -/
  | idle
  /-- A start condition was sent with success, no address yet. -/
  | started
  /-- An address with the write bit was acknowledged. -/
  | masterTx
  /-- An address with the read bit was acknowledged. -/
  | masterRx
  /-- A bus phase failed while a transaction was open: only a stop is allowed. -/
  | held
  deriving DecidableEq, Repr

/-- STATUS.ERR, the outcome of the last completed command (R25, R252). -/
inductive Err where
  | ok
  | illegalCommand
  | illegalOperand
  | illegalSequence
  | busFailure
  | tuneTimeout
  | illegalConfig
  deriving DecidableEq, Repr

/-- RE_STATE, the ready-edge detector (R41, R220). -/
inductive ReadyEdge where
  | idle
  | armedForFall
  deriving DecidableEq, Repr

/-- One turn of the interleaving of R20 and R73: what the scheduler lets happen next. The model's own, not the
spec's: it lets one deterministic step function show every interleaving. -/
inductive Turn where
  /-- `HostRead(addr, width)`, the width in bytes (R62, R65). -/
  | hostRead (addr : BitVec 12) (width : Nat)
  /-- `HostWrite(addr, width, value)` (R62-R64). -/
  | hostWrite (addr : BitVec 12) (width : Nat) (value : Word)
  /-- The host's WAIT loop on STATUS.BUSY (R100). -/
  | hostWait
  /-- A controller step (R23). -/
  | controller
  /-- Power-on reset (R270, R271), arriving once the controller's current step has sent this many bus events. -/
  | powerOnReset (afterEvents : Nat)
  deriving DecidableEq, Repr

/-- The state of the machine. The fields down to `history` are the spec's; the last five are the model's own. -/
structure State where
  /-- ARG[0..3], the host's argument registers (R21). -/
  arg : Vector Word 4
  /-- RESULT, the value of the last completed command (R21). -/
  result : Word
  /-- PENDING, the accepted command word that has not executed yet (R22). -/
  pending : Option Word
  /-- LARG[0..3], the operands latched with the pending command (R22). -/
  larg : Vector Word 4
  /-- SEQ (R22). -/
  seq : Seq
  /-- POLLS, the tune-complete polls of the tune in progress, unbounded (R22). -/
  polls : Nat
  /-- STATUS.BSC, the code of the most recent bus event that returned one (R24, R29). -/
  bsc : Byte
  /-- STATUS.DROP, a CMD write was dropped since the last accepted one (R24). -/
  drop : Bool
  /-- STATUS.ERR (R24, R25). -/
  err : Err
  /-- STATUS.PHASE (R24, R30). -/
  phase : Phase
  /-- SHADOW[0..15], the shadow register file (R33). -/
  shadow : Vector Half 16
  /-- VALID[0..15], the written marks of SHADOW (R36). -/
  valid : Vector Bool 16
  /-- XBUF[0..31], the host transfer buffer (R31). -/
  xbuf : Vector Byte 32
  /-- XVALID[0..31], the written marks of XBUF (R31). -/
  xvalid : Vector Bool 32
  /-- STG[0..31], the internal staging buffer (R32). -/
  stg : Vector Byte 32
  /-- PS[0..7], the station name (R37). -/
  ps : Vector Byte 8
  /-- RT[0..63], the published radio text (R38). -/
  rt : Vector Byte 64
  /-- WIP[0..63], the radio text in progress (R38). -/
  wip : Vector Byte 64
  /-- TEXT_AB, the stored text channel flag (R39). -/
  textAB : Bool
  /-- PTY, the program type as a 6-bit two's-complement value, -1 or 0 to 31 (R27, R40). -/
  pty : BitVec 6
  /-- RE_STATE (R41). -/
  readyEdge : ReadyEdge
  /-- The bus history, oldest event first (R42). -/
  history : List BusEvent
  /-- MODEL'S OWN: the implementation parameters (00_scope.md R5); no step changes them. -/
  params : Params
  /-- MODEL'S OWN: the bus environment's next answers, the next one first (R113); when none is listed an answer is
  the free value `Config.busOracle`. -/
  answers : List BusAnswer
  /-- MODEL'S OWN: how many answers were drawn so far, the counter the free value is applied to. -/
  draws : Nat
  /-- MODEL'S OWN: the turns the scheduler gives next (R20); when none is listed, the controller's. -/
  schedule : List Turn
  /-- MODEL'S OWN: what the host has read so far, address and value, oldest first (R65, R73). -/
  hostReads : List (BitVec 12 × Word)
  deriving DecidableEq, Repr

/-- The model faults of R258: states in which the spec gives the hardware no defined result, where it has the model
stop. None is visible to the host. -/
inductive Fault where
  /-- A read of SHADOW[i] with VALID[i] = 0, by a commit, by TUNE_SET_FREQ, TUNE_GET_MIN or TUNE_GET_MAX, or by a host
  read (R36, R65, R153, R175, R182, R183); the spec's pseudocode has `fault ShadowUnwritten` there, "a model stops the run
  there" (R258), and R36 "the model gives it none", no value. Safe: nothing is proved of a run past it. -/
  | shadowUnwritten
  /-- A read of XBUF[i] with XVALID[i] = 0, by BUS_SEND, BUS_WRITE or a host read (R65, R127, R129); the spec's pseudocode has
  `fault XbufUnwritten` there, "a model stops the run there" (R258). Safe: nothing is proved of a run past it. -/
  | xbufUnwritten
  /-- A host access whose width is not 4 bytes or whose address has bits 1:0 not 0 (R62). Safe: the host port cannot
  carry such an access. -/
  | hostAccessShape
  /-- TUNE_SET_FREQ computed a channel above 1023, possible only with band tables other than the default (R173, R175).
  Safe: the spec gives no result there. -/
  | channelRange
  deriving DecidableEq, Repr

/-- Why a step has no meaning. -/
inductive Refusal where
  /-- The command of this mnemonic has no meaning in the model yet; raised by `exec` alone, and by none of its arms
  here. Safe: nothing can be proved of a run past it. -/
  | notModelled (mnemonic : String)
  deriving DecidableEq, Repr

/-- What a command, a turn or a step answers. -/
abbrev Result := Host.Outcome State Fault Refusal

/-- The machine after power-on reset (R44, R270). The contents of SHADOW, XBUF and STG, which the spec leaves
unspecified, hold 0 (notes/assumptions/1.md); no read can tell, since every written mark is clear. -/
def State.reset : State where
  arg := .replicate 4 0
  result := 0
  pending := none
  larg := .replicate 4 0
  seq := .idle
  polls := 0
  bsc := 0xF8
  drop := false
  err := .ok
  phase := .idle
  shadow := .replicate 16 0
  valid := .replicate 16 false
  xbuf := .replicate 32 0
  xvalid := .replicate 32 false
  stg := .replicate 32 0
  ps := .replicate 8 0
  rt := .replicate 64 0
  wip := .replicate 64 0
  textAB := false
  pty := -1
  readyEdge := .idle
  history := []
  params := defaultParams
  answers := []
  draws := 0
  schedule := []
  hostReads := []

end Sys2Proof.Machine
end

