-- ==== Sys2Proof/Machine/Flags.lean ====
section
/-! DEFINITION. The status registers the host reads, STATUS, EDGE and PTYREG, computed from the state that holds their
fields (10_state.md R24-R27), and the success sets of the status codes (40_bus.md R118). -/
namespace Sys2Proof.Machine

/-- The code of PHASE in STATUS bits 18:16 (R24). -/
def phaseCode : Phase → BitVec 3
  | .idle => 0
  | .started => 1
  | .masterTx => 2
  | .masterRx => 3
  | .held => 4

/-- The code of ERR in STATUS bits 15:12 (R25). -/
def errCode : Err → BitVec 4
  | .ok => 0
  | .illegalCommand => 1
  | .illegalOperand => 2
  | .illegalSequence => 3
  | .busFailure => 4
  | .tuneTimeout => 5
  | .illegalConfig => 6

/-- STATUS.BUSY: a command is pending or a tune is in progress (R24). -/
def busy (s : State) : Bool := s.pending.isSome || decide (s.seq = .tuning)

/-- STATUS as the host reads it (R24): reserved 31:19, PHASE 18:16, ERR 15:12, reserved 11:10, DROP 9, BUSY 8,
BSC 7:0. -/
def statusWord (s : State) : Word :=
  0#13 ++ phaseCode s.phase ++ errCode s.err ++ 0#2 ++ BitVec.ofBool s.drop ++ BitVec.ofBool (busy s) ++ s.bsc

/-- EDGE as the host reads it (R26): bit 0 is RE_STATE, bit 1 is TEXT_AB. -/
def edgeWord (s : State) : Word :=
  0#30 ++ BitVec.ofBool s.textAB ++ BitVec.ofBool (decide (s.readyEdge = .armedForFall))

/-- PTYREG as the host reads it: PTY, sign-extended (R27). -/
def ptyWord (s : State) : Word := s.pty.signExtend 32

/-- A start condition succeeded (R118). -/
def startOk (c : StatusCodes) (sc : Byte) : Bool := sc = c.start || sc = c.repStart

/-- The success code of an address byte with direction `dir`, `true` to read (R118). -/
def slaAck (c : StatusCodes) (dir : Bool) : Byte := if dir then c.mrSlaAck else c.mtSlaAck

/-- The success code of a received byte that was answered with ACK, or with NAK (R118). -/
def rxCode (c : StatusCodes) (ack : Bool) : Byte := if ack then c.mrDataAck else c.mrDataNack

end Sys2Proof.Machine
end

