-- ==== Sys2Proof/Machine/Ops.lean ====
section
/-! DEFINITION. The named operations of the machine: ending a command with an outcome (60_exceptions.md R251, the
controller's only "exception"; R250, R256 and R257: no trap is entered, nothing is saved and there is no return), the
bus events and sequences (40_bus.md R111-R122), the buffers, the two bursts of the register-file engine (41_regfile.md
R151-R153), and the bit fields of the shadow registers (10_state.md R34). -/
namespace Sys2Proof.Machine

/-! ### Outcomes -/

/-- A command completes with a value in RESULT and an outcome code in STATUS.ERR (R21, R24). -/
def complete (value : Word) (e : Err) (s : State) : State := { s with result := value, err := e }

/-- `raise CmdError(e)` (R8, R251): RESULT is 0, ERR is `e`, and nothing else changes. -/
def raise (e : Err) (s : State) : State := complete 0 e s

/-- A successful or failed bus operation as an outcome code: OK, or BUS_FAILURE (R252). -/
def busOutcome (ok : Bool) : Err := if ok then .ok else .busFailure

/-- A boolean as a RESULT, 1 or 0 (R21, D9). -/
def boolWord (b : Bool) : Word := if b then 1 else 0

/-- Change the next state of an outcome; a stop stays as it is. -/
def mapNext (f : State → State) : Result → Result
  | .next t => .next (f t)
  | .fault x => .fault x
  | .refused x => .refused x

/-! ### Bus events -/

/-- What the bus environment answers to the request `r` in this state: the first answer the state lists, else the free
value (R113). -/
def nextAnswer (r : BusRequest) (s : State) : BusAnswer :=
  match s.answers with
  | a :: _ => a
  | [] => ⟨(Config.busOracle s.draws s.history r).1, (Config.busOracle s.draws s.history r).2⟩

/-- A bus event that got the code `sc` has happened: one answer is drawn, the history gets the event and BSC the code
(R42, R111, R114-R116). -/
def recordEvent (e : BusEvent) (sc : Byte) (s : State) : State :=
  { s with answers := s.answers.tail, draws := s.draws + 1, history := s.history ++ [e], bsc := sc }

/-- `BusStart() -> sc` (R111). -/
def busStart (s : State) : Byte × State :=
  let a := nextAnswer .start s
  (a.sc, recordEvent (.start a.sc) a.sc s)

/-- `BusStop()` (R112). -/
def busStop (s : State) : State :=
  { s with history := s.history ++ [.stop], bsc := s.params.sc.noInfo, phase := .idle }

/-- `BusAddr(byte) -> sc` (R114). -/
def busAddr (byte : Byte) (s : State) : Byte × State :=
  let a := nextAnswer (.addr byte) s
  (a.sc, recordEvent (.addr byte a.sc) a.sc s)

/-- `BusTx(byte) -> sc` (R115). -/
def busTx (byte : Byte) (s : State) : Byte × State :=
  let a := nextAnswer (.tx byte) s
  (a.sc, recordEvent (.tx byte a.sc) a.sc s)

/-- `BusRx(ack) -> (byte, sc)` (R116). -/
def busRx (ack : Bool) (s : State) : (Byte × Byte) × State :=
  let a := nextAnswer (.rx ack) s
  ((a.data, a.sc), recordEvent (.rx ack a.data a.sc) a.sc s)

/-- Put the bus master in a phase (R30). -/
def setPhase (p : Phase) (s : State) : State := { s with phase := p }

/-- The address byte `{slave[6:0], dir}`, `dir` true to read (R114). -/
def addressByte (slave : BitVec 7) (dir : Bool) : Byte := slave ++ BitVec.ofBool dir

/-! ### Bus sequences -/

/-- `SendSeq(src, n) -> count` with `src` the n bytes to send (R119): the first byte that is not acknowledged ends it
and puts the bus master in Held. -/
def sendSeq : List Byte → State → Nat × State
  | [], s => (0, s)
  | b :: rest, s =>
    let r := busTx b s
    if r.1 = s.params.sc.mtDataAck then
      let r' := sendSeq rest r.2
      (r'.1 + 1, r'.2)
    else (0, setPhase .held r.2)

/-- `RecvSeq(dst, n)` (R120), answering the bytes received in order: every byte but the last is answered with ACK, a
byte with another code than expected ends it and is dropped, and every path sends a stop. -/
def recvSeq : Nat → State → List Byte × State
  | 0, s => ([], busStop s)
  | n + 1, s =>
    let ack := decide (n ≠ 0)
    let r := busRx ack s
    if r.1.2 = rxCode s.params.sc ack then
      let r' := recvSeq n r.2
      (r.1.1 :: r'.1, r'.2)
    else ([], busStop r.2)

/-- The opening of `WriteSeq` and `ReadSeq`: a start and an address byte. True if both succeeded; on a failure a stop
has been sent (R121, R122). -/
def openSeq (slave : BitVec 7) (dir : Bool) (s : State) : Bool × State :=
  let st := busStart s
  if startOk s.params.sc st.1 then
    let ad := busAddr (addressByte slave dir) st.2
    if ad.1 = slaAck s.params.sc dir then (true, ad.2) else (false, busStop ad.2)
  else (false, busStop st.2)

/-- `WriteSeq(slave, src, n) -> count` (R121): `none` where the start or the address phase failed (the spec's count 0),
else the count of data bytes accepted. -/
def writeSeq (slave : BitVec 7) (src : List Byte) (s : State) : Option Nat × State :=
  let o := openSeq slave false s
  if o.1 then
    let sent := sendSeq src o.2
    (some sent.1, busStop sent.2)
  else (none, o.2)

/-- `ReadSeq(slave, dst, n)` (R122): `none` where the start or the address phase failed, else the bytes received, in
order. -/
def readSeq (slave : BitVec 7) (n : Nat) (s : State) : Option (List Byte) × State :=
  let o := openSeq slave true s
  if o.1 then
    let got := recvSeq n o.2
    (some got.1, got.2)
  else (none, o.2)

/-! ### Buffers -/

/-- Write the elements of a list to a vector, the first at index `i`; what would fall beyond its end is dropped. -/
def writeFrom {α : Type} {n : Nat} (v : Vector α n) (i : Nat) : List α → Vector α n
  | [] => v
  | x :: xs => writeFrom (v.setIfInBounds i x) (i + 1) xs

/-- `dst[i] <- b` for the received bytes with `dst = XBUF`, each marked as written (R31, R128, R130). -/
def storeXbuf (bs : List Byte) (s : State) : State :=
  { s with xbuf := writeFrom s.xbuf 0 bs, xvalid := writeFrom s.xvalid 0 (List.replicate bs.length true) }

/-- `dst[i] <- b` with `dst = STG` (R32). -/
def storeStg (bs : List Byte) (s : State) : State := { s with stg := writeFrom s.stg 0 bs }

/-- The bytes `XBUF[0..n-1]`. -/
def xbufBytes (n : Nat) (s : State) : List Byte := s.xbuf.toList.take n

/-- Every byte of `XBUF[0..n-1]` has been written (R127, R129). -/
def xbufWritten (n : Nat) (s : State) : Bool := (s.xvalid.toList.take n).all id

/-! ### Shadow-register fields -/

/-- Set or clear one bit of a register. -/
def setBit (v : Half) (i : Nat) (b : Bool) : Half := if b then v ||| (1#16 <<< i) else v &&& ~~~(1#16 <<< i)

/-- `(v & ~0x03FF) | chan`, at the channel field's place: clear the channel bits and set the channel (R34, R175). -/
def setChannel (v : Half) (lo : Nat) (chan : BitVec 10) : Half :=
  (v &&& ~~~(0x03FF#16 <<< lo)) ||| (chan.setWidth 16 <<< lo)

/-- `SHADOW[i] <- v`, the written mark as it was (R35, R36). -/
def setShadow (i : Fin 16) (v : Half) (s : State) : State := { s with shadow := s.shadow.set i v }

/-- The tune-request bit of SHADOW[3] (R34): `SHADOW[3][15] <- b` at the default position. -/
def setTuneBit (b : Bool) (s : State) : State := setShadow 3 (setBit s.shadow[3] s.params.fields.tune b) s

/-! ### The register-file engine -/

/-- READ_LEN, the bytes of a refresh (R5, R150). -/
def readLen : Nat := 32

/-- WRITE_LEN, the bytes of a commit (R5, R150). -/
def writeLen : Nat := 12

/-- The register that bytes 2k and 2k + 1 of a refresh belong to, `(READ_START + k) mod 16` (R151). -/
def burstRegister (k : Nat) : Nat := (10 + k) % 16

/-- The place k of register r in a refresh, so that `burstRegister k = r` (R151). -/
def burstPlace (r : Nat) : Nat := (r + 6) % 16

/-- Register r as the staging buffer holds it after a refresh, high byte first (R69, R151). -/
def stagedRegister (stg : Vector Byte 32) (r : Nat) : Half :=
  (stg[2 * burstPlace r]?.getD 0) ++ (stg[2 * burstPlace r + 1]?.getD 0)

/-- The de-interleaving of a complete refresh: all 16 registers and all 16 written marks at once (R152). -/
def loadShadow (s : State) : State :=
  { s with shadow := Vector.ofFn (fun r : Fin 16 => stagedRegister s.stg r), valid := .replicate 16 true }

/-- `Refresh() -> ok` (R152). A short read leaves SHADOW and VALID unchanged. -/
def refresh (s : State) : Bool × State :=
  let r := readSeq s.params.tunerAddr readLen s
  let bytes := r.1.getD []
  let t := storeStg bytes r.2
  if bytes.length = readLen then (true, loadShadow t) else (false, t)

/-- The two bytes of a register on the bus, the more significant first (R69, R153). -/
def registerBytes (v : Half) : List Byte := [v.extractLsb' 8 8, v.extractLsb' 0 8]

/-- The 12 bytes of a commit: registers 2 to 7, whichever changed (R153). -/
def commitBytes (s : State) : List Byte := ((s.shadow.toList.drop 2).take 6).flatMap registerBytes

/-- Registers 2 to 7 have all been written (R153). -/
def commitReady (s : State) : Bool := ((s.valid.toList.drop 2).take 6).all id

/-- `Commit() -> ok` (R153), or the fault ShadowUnwritten before any bus event. -/
def commit (s : State) : Except Fault (Bool × State) :=
  if commitReady s then
    let r := writeSeq s.params.tunerAddr (commitBytes s) (storeStg (commitBytes s) s)
    .ok (decide (r.1 = some writeLen), r.2)
  else .error .shadowUnwritten

/-- Go on with a commit's outcome, or stop with its fault. -/
def withCommit (s : State) (k : Bool → State → Result) : Result :=
  match commit s with
  | .ok r => k r.1 r.2
  | .error x => .fault x

/-- A command that commits and reports how the commit ended: RESULT 1 or 0, ERR OK or BUS_FAILURE. -/
def commitAndReport (s : State) : Result :=
  withCommit s fun ok t => .next (complete (boolWord ok) (busOutcome ok) t)

/-- A command that goes on after a refresh: a failed refresh ends it with RESULT 0 and BUS_FAILURE (R252). -/
def withRefresh (s : State) (k : State → Result) : Result :=
  if (refresh s).1 then k (refresh s).2 else .next (complete 0 .busFailure (refresh s).2)

/-- A query: a refresh, then RESULT is a value read from the fresh state and ERR is OK (R184, R191-R193). -/
def refreshAndReport (value : State → Word) (s : State) : Result :=
  .next (if (refresh s).1 then complete (value (refresh s).2) .ok (refresh s).2
    else complete 0 .busFailure (refresh s).2)

end Sys2Proof.Machine
end

