-- ==== Sys2Proof/Syntax.lean ====
section
/-! DEFINITION. The thirty commands of the controller, one constructor per row of spec/opcode_table.json
(30_encoding.md R92). A command word carries no operands (R90): a command reads them from the latched
argument registers when it executes (R93, R94), so the constructors have no fields. -/
namespace Sys2Proof

/-- A command of the controller (R92), in the order of the opcode map. -/
inductive Instr where
  /-- 0x10 BUS_START: send a start condition (R123). -/
  | busStart
  /-- 0x11 BUS_STOP: release the bus (R124). -/
  | busStop
  /-- 0x12 BUS_ADDR: send a slave address and a direction bit (R125). -/
  | busAddr
  /-- 0x13 BUS_SEND_BYTE: send the byte in LARG0 (R126). -/
  | busSendByte
  /-- 0x14 BUS_SEND: send the first n bytes of XBUF (R127). -/
  | busSend
  /-- 0x15 BUS_RECV: receive n bytes into XBUF, then stop (R128). -/
  | busRecv
  /-- 0x16 BUS_WRITE: a whole write transaction from XBUF (R129). -/
  | busWrite
  /-- 0x17 BUS_READ: a whole read transaction into XBUF (R130). -/
  | busRead
  /-- 0x20 RF_REFRESH: the 32-byte burst read of the shadow file (R154). -/
  | rfRefresh
  /-- 0x21 RF_COMMIT: the 12-byte burst write of registers 2 to 7 (R156). -/
  | rfCommit
  /-- 0x22 RF_SET: set one shadow register of 2 to 7 (R155). -/
  | rfSet
  /-- 0x30 TUNER_INIT: reset detector and decoder, then refresh (R190). -/
  | tunerInit
  /-- 0x31 TUNE_SET_FREQ: request a channel and start polling (R175). -/
  | tuneSetFreq
  /-- 0x32 TUNE_GET_FREQ: the frequency of the reported channel (R180). -/
  | tuneGetFreq
  /-- 0x33 TUNE_IS_READY: one tune-complete poll (R181). -/
  | tuneIsReady
  /-- 0x34 TUNER_IS_CONNECTED: compare the identifier registers (R184). -/
  | tunerIsConnected
  /-- 0x35 TUNE_GET_MIN: the band's minimum frequency (R182). -/
  | tuneGetMin
  /-- 0x36 TUNE_GET_MAX: the band's maximum frequency (R183). -/
  | tuneGetMax
  /-- 0x37 TUNER_IS_TUNED: the tune-complete bit (R191). -/
  | tunerIsTuned
  /-- 0x38 TUNER_IS_STEREO: the stereo indicator (R192). -/
  | tunerIsStereo
  /-- 0x39 TUNER_GET_RSSI: the signal level (R193). -/
  | tunerGetRssi
  /-- 0x3A TUNER_SET_MONO: set or clear MONO and commit (R194). -/
  | tunerSetMono
  /-- 0x3B TUNER_SET_SOFTMUTE: set or clear soft mute and commit (R195). -/
  | tunerSetSoftmute
  /-- 0x3C TUNER_SLEEP: request power-down and commit (R196). -/
  | tunerSleep
  /-- 0x3D TUNER_WAKEUP: request power-up and commit (R197). -/
  | tunerWakeup
  /-- 0x3E TUNE_SEEK_UP: a no-op (R198). -/
  | tuneSeekUp
  /-- 0x3F TUNE_SEEK_DOWN: a no-op (R199). -/
  | tuneSeekDown
  /-- 0x40 RDS_POLL: one poll of the ready-edge detector (R221). -/
  | rdsPoll
  /-- 0x41 RDS_DECODE: decode the group in LARG0 to LARG3 (R222). -/
  | rdsDecode
  /-- 0x42 RDS_RESET: reset the decoder (R223). -/
  | rdsReset
  deriving DecidableEq, Repr

end Sys2Proof
end

