-- ==== Sys2Proof/Machine/Operands.lean ====
section
/-! DEFINITION. The operand forms of the commands (30_encoding.md R93, R94), their legality check (R96), the phase table
(40_bus.md R117) and the order of the two checks (R97). -/
namespace Sys2Proof.Machine

/-- An operand form of R93. -/
inductive Form where
  /-- A 7-bit bus address. -/
  | slave
  /-- A direction: 0 write, 1 read. -/
  | dir
  /-- A byte. -/
  | byte
  /-- A count of XBUF bytes. -/
  | count
  /-- The index of a register a host may set. -/
  | index
  /-- A 16-bit register value. -/
  | value16
  /-- A signed frequency in units of 10 kHz. -/
  | freq
  /-- A boolean. -/
  | bool
  /-- One RDS block. -/
  | block
  deriving DecidableEq, Repr

/-- The legal column of R93. -/
def formLegal : Form → Word → Bool
  | .slave, w => w.extractLsb' 7 25 = 0
  | .dir, w => w.extractLsb' 1 31 = 0
  | .byte, w => w.extractLsb' 8 24 = 0
  | .count, w => decide (w.toNat ≤ 32)
  | .index, w => decide (2 ≤ w.toNat) && decide (w.toNat ≤ 7)
  | .value16, w => w.extractLsb' 16 16 = 0
  | .freq, _ => true
  | .bool, w => w.extractLsb' 1 31 = 0
  | .block, w => w.extractLsb' 16 16 = 0

/-- The operands of each command: the argument register and the form (R94). -/
def operandForms : Instr → List (Fin 4 × Form)
  | .busAddr => [(0, .slave), (1, .dir)]
  | .busSendByte => [(0, .byte)]
  | .busSend => [(0, .count)]
  | .busRecv => [(0, .count)]
  | .busWrite => [(0, .slave), (1, .count)]
  | .busRead => [(0, .slave), (1, .count)]
  | .rfSet => [(0, .index), (1, .value16)]
  | .tuneSetFreq => [(0, .freq)]
  | .tunerSetMono => [(0, .bool)]
  | .tunerSetSoftmute => [(0, .bool)]
  | .rdsDecode => [(0, .block), (1, .block), (2, .block), (3, .block)]
  | .busStart | .busStop | .rfRefresh | .rfCommit | .tunerInit | .tuneGetFreq | .tuneIsReady | .tunerIsConnected
  | .tuneGetMin | .tuneGetMax | .tunerIsTuned | .tunerIsStereo | .tunerGetRssi | .tunerSleep | .tunerWakeup
  | .tuneSeekUp | .tuneSeekDown | .rdsPoll | .rdsReset => []

/-- Every operand the command names has a legal value in its latched register (R96). -/
def operandsLegal (i : Instr) (s : State) : Bool := (operandForms i).all fun o => formLegal o.2 s.larg[o.1]

/-- The phases a command is legal in (R117; R30 for the commands that use no bus). -/
def phaseAllowed : Instr → Phase → Bool
  | .busStart, p => decide (p ≠ .held)
  | .busAddr, p => decide (p = .started)
  | .busSendByte, p | .busSend, p => decide (p = .masterTx)
  | .busRecv, p => decide (p = .masterRx)
  | .busWrite, p | .busRead, p | .rfRefresh, p | .rfCommit, p | .tunerInit, p | .tuneSetFreq, p | .tuneGetFreq, p
  | .tuneIsReady, p | .tunerIsConnected, p | .tunerIsTuned, p | .tunerIsStereo, p | .tunerGetRssi, p
  | .tunerSetMono, p | .tunerSetSoftmute, p | .tunerSleep, p | .tunerWakeup, p | .rdsPoll, p => decide (p = .idle)
  | .busStop, _ | .rfSet, _ | .tuneGetMin, _ | .tuneGetMax, _ | .tuneSeekUp, _ | .tuneSeekDown, _ | .rdsDecode, _
  | .rdsReset, _ => true

/-- The checks every command begins with, in the order of R97: the operands, then the phase. A failing check ends the
command with its outcome code and no other effect (R251). -/
def guarded (i : Instr) (s : State) (body : Result) : Result :=
  if operandsLegal i s then
    if phaseAllowed i s.phase then body else .next (raise .illegalSequence s)
  else .next (raise .illegalOperand s)

/-! ### Operand values (R93) -/

/-- `LARG[k][6:0]`, a bus address. -/
def slaveOperand (k : Fin 4) (s : State) : BitVec 7 := s.larg[k].extractLsb' 0 7

/-- `LARG[k][0]`, a direction (true to read) or a boolean. -/
def bitOperand (k : Fin 4) (s : State) : Bool := s.larg[k].getLsbD 0

/-- `LARG[k][7:0]`, a byte. -/
def byteOperand (k : Fin 4) (s : State) : Byte := s.larg[k].extractLsb' 0 8

/-- `LARG[k]` as an unsigned count. -/
def natOperand (k : Fin 4) (s : State) : Nat := s.larg[k].toNat

/-- `LARG[k]` as a register index; a legal one is 2 to 7, so nothing is lost. -/
def indexOperand (k : Fin 4) (s : State) : Fin 16 := Fin.ofNat 16 s.larg[k].toNat

/-- `LARG[k][15:0]`, a register value or an RDS block. -/
def halfOperand (k : Fin 4) (s : State) : Half := s.larg[k].extractLsb' 0 16

/-- `int32(LARG[k])`, a signed frequency. -/
def freqOperand (k : Fin 4) (s : State) : Int := s.larg[k].toInt

end Sys2Proof.Machine
end

