-- ==== Sys2Proof/Machine/Bus.lean ====
section
/-! DEFINITION. The bus commands (40_bus.md R123-R130). No command repeats a bus event after a failure (R131). -/
namespace Sys2Proof.Machine

/-- How the single-phase commands end: with the phase reached and RESULT 1, or in Held with BUS_FAILURE (R123, R125). -/
def endPhase (ok : Bool) (reached : Phase) (s : State) : State :=
  complete (boolWord ok) (busOutcome ok) (setPhase (if ok then reached else .held) s)

/-- BUS_START (R123). -/
def execBusStart (s : State) : Result :=
  guarded .busStart s
    (let r := busStart s
     .next (endPhase (startOk s.params.sc r.1) .started r.2))

/-- BUS_STOP (R124): a stop is sent unless the bus is idle already. -/
def execBusStop (s : State) : Result :=
  guarded .busStop s (.next (complete 1 .ok (if s.phase = .idle then s else busStop s)))

/-- BUS_ADDR (R125). -/
def execBusAddr (s : State) : Result :=
  guarded .busAddr s
    (let dir := bitOperand 1 s
     let r := busAddr (addressByte (slaveOperand 0 s) dir) s
     .next (endPhase (decide (r.1 = slaAck s.params.sc dir)) (if dir then .masterRx else .masterTx) r.2))

/-- A count of bytes as the RESULT of a transfer, a short one a BUS_FAILURE (R126-R130). -/
def reportCount (count : Nat) (ok : Bool) (s : State) : State := complete (BitVec.ofNat 32 count) (busOutcome ok) s

/-- BUS_SEND_BYTE (R126): the byte comes from LARG0, not from XBUF. -/
def execBusSendByte (s : State) : Result :=
  guarded .busSendByte s
    (let r := sendSeq [byteOperand 0 s] s
     .next (reportCount r.1 (decide (r.1 = 1)) r.2))

/-- BUS_SEND (R127). -/
def execBusSend (s : State) : Result :=
  guarded .busSend s
    (let n := natOperand 0 s
     if xbufWritten n s then
       let r := sendSeq (xbufBytes n s) s
       .next (reportCount r.1 (decide (r.1 = n)) r.2)
     else .fault .xbufUnwritten)

/-- BUS_RECV (R128). -/
def execBusRecv (s : State) : Result :=
  guarded .busRecv s
    (let n := natOperand 0 s
     let r := recvSeq n s
     .next (reportCount r.1.length (decide (r.1.length = n)) (storeXbuf r.1 r.2)))

/-- BUS_WRITE (R129): ERR is OK only if the start and the address phase succeeded too. -/
def execBusWrite (s : State) : Result :=
  guarded .busWrite s
    (let n := natOperand 1 s
     if xbufWritten n s then
       let r := writeSeq (slaveOperand 0 s) (xbufBytes n s) s
       .next (reportCount (r.1.getD 0) (decide (r.1 = some n)) r.2)
     else .fault .xbufUnwritten)

/-- BUS_READ (R130): ERR is OK only if the start and the address phase succeeded too. -/
def execBusRead (s : State) : Result :=
  guarded .busRead s
    (let n := natOperand 1 s
     let r := readSeq (slaveOperand 0 s) n s
     let bytes := r.1.getD []
     .next (reportCount bytes.length (decide (r.1.map List.length = some n)) (storeXbuf bytes r.2)))

end Sys2Proof.Machine
end

