-- ==== Sys2Proof/Machine/Rds.lean ====
section
/-! DEFINITION. The RDS group decoder, the ready-edge detector and their commands (43_rds.md R210-R225). -/
namespace Sys2Proof.Machine

/-- `RdsReset()` (R211); RE_STATE is not the decoder's and stays. -/
def rdsClear (s : State) : State :=
  { s with pty := -1, ps := .replicate 8 0, rt := .replicate 64 0, wip := .replicate 64 0, textAB := false }

/-! ### The fields of block B (R212) and the characters of a block (R213) -/

/-- GC, the group code, bits 15:11. -/
def groupCode (b : Half) : BitVec 5 := b.extractLsb' 11 5

/-- PTYF, the program type, bits 9:5. -/
def ptyField (b : Half) : BitVec 5 := b.extractLsb' 5 5

/-- SEG2, the group-0 segment offset, bits 1:0. -/
def seg2 (b : Half) : BitVec 2 := b.extractLsb' 0 2

/-- AB, the text channel flag, bit 4. -/
def abFlag (b : Half) : Bool := b.getLsbD 4

/-- SEG4, the group-2 segment offset, bits 3:0. -/
def seg4 (b : Half) : BitVec 4 := b.extractLsb' 0 4

/-- The first character of a block, its high byte. -/
def hi (x : Half) : Byte := x.extractLsb' 8 8

/-- The second character of a block, its low byte. -/
def lo (x : Half) : Byte := x.extractLsb' 0 8

/-- The translation of radio-text characters: a carriage return is stored as 0 (R213). -/
def cr (ch : Byte) : Byte := if ch = 0x0D then 0x00 else ch

/-! ### The group handlers -/

/-- Group 0, versions A and B (R215): the program type, and two characters of the station name as they come. -/
def group0 (b d : Half) (s : State) : State :=
  { s with pty := (ptyField b).setWidth 6, ps := writeFrom s.ps (2 * (seg2 b).toNat) [hi d, lo d] }

/-- `TextFlag(ab)` (R216): a changed flag publishes the text in progress and clears it. -/
def textFlag (ab : Bool) (s : State) : State :=
  if ab ≠ s.textAB then { s with rt := s.wip, wip := .replicate 64 0, textAB := ab } else s

/-- Write radio-text characters in progress from a place on, carriage returns translated (R213, R217, R218). -/
def writeText (at_ : Nat) (chars : List Byte) (s : State) : State := { s with wip := writeFrom s.wip at_ (chars.map cr) }

/-- Group 2A (R217): the flag, then four characters of blocks C and D. -/
def group2A (b c d : Half) (s : State) : State :=
  writeText (4 * (seg4 b).toNat) [hi c, lo c, hi d, lo d] (textFlag (abFlag b) s)

/-- Group 2B (R218): the flag, then two characters of block D. -/
def group2B (b d : Half) (s : State) : State :=
  writeText (2 * (seg4 b).toNat) [hi d, lo d] (textFlag (abFlag b) s)

/-- `Decode(a, b, c, d) -> handled` (R214, R219). Block A is used for nothing (R210). -/
def decodeGroup (_a b c d : Half) (s : State) : Bool × State :=
  match (groupCode b).toNat with
  | 0 => (true, group0 b d s)
  | 1 => (true, group0 b d s)
  | 4 => (true, group2A b c d s)
  | 5 => (true, group2B b d s)
  | _ => (false, s)

/-! ### The commands -/

/-- The poll of the ready-edge detector on a freshly read register file (R220, R221). RESULT is 1 exactly when the
decoder was invoked. -/
def readyEdgePoll (s : State) : State :=
  match s.readyEdge, s.shadow[10].getLsbD s.params.fields.rdsr with
  | .idle, true =>
    complete 1 .ok (decodeGroup s.shadow[12] s.shadow[13] s.shadow[14] s.shadow[15]
      { s with readyEdge := .armedForFall }).2
  | .idle, false => complete 0 .ok s
  | .armedForFall, false => complete 0 .ok { s with readyEdge := .idle }
  | .armedForFall, true => complete 0 .ok s

/-- RDS_POLL (R221): a failed refresh changes neither the detector nor the decoder. -/
def execRdsPoll (s : State) : Result :=
  guarded .rdsPoll s
    (.next (if (refresh s).1 then readyEdgePoll (refresh s).2 else complete 0 .busFailure (refresh s).2))

/-- RDS_DECODE (R222). -/
def execRdsDecode (s : State) : Result :=
  guarded .rdsDecode s
    (let r := decodeGroup (halfOperand 0 s) (halfOperand 1 s) (halfOperand 2 s) (halfOperand 3 s) s
     .next (complete (boolWord r.1) .ok r.2))

/-- RDS_RESET (R223). -/
def execRdsReset (s : State) : Result := guarded .rdsReset s (.next (complete 1 .ok (rdsClear s)))

/-! ### The decoder's read accessors (R224) -/

/-- `stationName()`: PS[0..7] and the conceptual terminator (R37, R224). -/
def stationName (s : State) : List Byte := s.ps.toList ++ [0]

/-- `radioText()`: the published buffer only (R224). -/
def radioText (s : State) : List Byte := s.rt.toList

/-- `date()` and `time()` "remain empty" (R224). -/
def dateAndTime (_s : State) : List Byte := []

end Sys2Proof.Machine
end

