-- ==== Sys2Proof/Machine/RegFile.lean ====
section
/-! DEFINITION. The register-file commands (41_regfile.md R154-R156). -/
namespace Sys2Proof.Machine

/-- RF_REFRESH (R154). -/
def execRfRefresh (s : State) : Result :=
  guarded .rfRefresh s
    (let r := refresh s
     .next (complete (boolWord r.1) (busOutcome r.1) r.2))

/-- RF_COMMIT (R156). -/
def execRfCommit (s : State) : Result := guarded .rfCommit s (commitAndReport s)

/-- RF_SET (R155): one of registers 2 to 7, and its written mark; no bus event. -/
def execRfSet (s : State) : Result :=
  guarded .rfSet s
    (let i := indexOperand 0 s
     .next (complete 1 .ok { setShadow i (halfOperand 1 s) s with valid := s.valid.set i true }))

end Sys2Proof.Machine
end

