-- ==== Sys2Proof/Machine/Tuning.lean ====
section
/-! DEFINITION. The tuning sequencer and the tuner-contract commands (42_tuning.md R170-R199). -/
namespace Sys2Proof.Machine

/-! ### Frequency arithmetic, exact integers in units of 10 kHz (R170) -/

/-- A table's value for a band code (R171). -/
def perBand (t : PerBand) (band : BitVec 2) : Nat :=
  match band.toNat with
  | 0 => t.b0
  | 1 => t.b1
  | 2 => t.b2
  | _ => t.b3

/-- SPACING for a spacing code; code 3 is reserved (R171). -/
def spacingFor (t : PerSpace) (space : BitVec 2) : Option Nat :=
  match space.toNat with
  | 0 => some t.s0
  | 1 => some t.s1
  | 2 => some t.s2
  | _ => none

/-- `BAND = SHADOW[5][7:6]` at the default position (R34, R171). -/
def bandCode (s : State) : BitVec 2 := s.shadow[5].extractLsb' s.params.fields.band 2

/-- `SPACE = SHADOW[5][5:4]` at the default position (R34, R171). -/
def spaceCode (s : State) : BitVec 2 := s.shadow[5].extractLsb' s.params.fields.space 2

/-- BAND_MIN(BAND) (R171). -/
def bandMinimum (s : State) : Nat := perBand s.params.bandMin (bandCode s)

/-- BAND_MAX(BAND) (R171). -/
def bandMaximum (s : State) : Nat := perBand s.params.bandMax (bandCode s)

/-- SPACING(SPACE), `none` for the reserved code (R171). -/
def channelSpacing (s : State) : Option Nat := spacingFor s.params.spacing (spaceCode s)

/-- CHAN_MAX, the largest channel (R5). -/
def chanMax : Nat := 1023

/-- `clamp(x, lo, hi)` (R6). -/
def clamp (x lo hi : Int) : Int := if x < lo then lo else if hi < x then hi else x

/-- `chan = (clamp(f, lo, hi) - lo) div sp` (R173). -/
def channelOf (low high spacing : Nat) (f : Int) : Nat := ((clamp f low high - low) / spacing).toNat

/-- `freq = chan × SPACING(SPACE) + BAND_MIN(BAND)` (R172). -/
def frequencyOf (chan spacing low : Nat) : Nat := chan * spacing + low

/-- READCHAN, the channel the chip reports (R34). -/
def reportedChannel (s : State) : Nat := (s.shadow[11].extractLsb' s.params.fields.readchan 10).toNat

/-- STC, the tune-complete bit (R34). -/
def tuneComplete (s : State) : Bool := s.shadow[10].getLsbD s.params.fields.stc

/-! ### The tune-complete poll -/

/-- `IsReadySeq() -> (done, ok)` (R174), answered to `k` with the state it leaves; the clearing commit may fault. -/
def isReadySeq (s : State) (k : Bool → Bool → State → Result) : Result :=
  if (refresh s).1 then
    if tuneComplete (refresh s).2 then
      withCommit (setTuneBit false (refresh s).2) fun ok t => k true ok t
    else k false true (refresh s).2
  else k false false (refresh s).2

/-- Completion of a tune (R177): the decoder is reset whatever the clearing commit returned, the detector is not. -/
def tuneDone (ok : Bool) (s : State) : State :=
  complete (boolWord ok) (busOutcome ok) { rdsClear s with seq := .idle }

/-- The end of a tune that reached MAX_TUNE_POLLS (R178): the tune request is cleared and committed, the commit's
outcome ignored; the decoder is not reset. -/
def tuneTimeout (s : State) : Result :=
  withCommit (setTuneBit false s) fun _ t => .next (complete 0 .tuneTimeout { t with seq := .idle })

/-- MAX_TUNE_POLLS is finite and this many polls reach it (R179). -/
def pollsExhausted (p : Params) (polls : Nat) : Bool := p.maxTunePolls.any (fun n => decide (n ≤ polls))

/-- One poll iteration, the controller step while a tune is in progress (R179). Completion is checked before the
count. -/
def pollIteration (s : State) : Result :=
  isReadySeq s fun done ok t =>
    if done then .next (tuneDone ok t)
    else if pollsExhausted t.params (t.polls + 1) then tuneTimeout { t with polls := t.polls + 1 }
    else .next { t with polls := t.polls + 1 }

/-! ### The commands -/

/-- The request of a tune: the channel and the tune-request bit in SHADOW[3] (R175). -/
def requestChannel (chan : BitVec 10) (s : State) : State :=
  setTuneBit true (setShadow 3 (setChannel s.shadow[3] s.params.fields.chan chan) s)

/-- The setup of TUNE_SET_FREQ from its refresh on (R175): a failed refresh or commit ends the command; otherwise the
sequencer starts polling, and RESULT and ERR keep their values until the tune ends. -/
def startTune (chan : BitVec 10) (s : State) : Result :=
  withRefresh s fun t =>
    withCommit (requestChannel chan t) fun ok u =>
      .next (if ok then { u with polls := 0, seq := .tuning } else complete 0 .busFailure u)

/-- TUNE_SET_FREQ (R175): band and spacing come from SHADOW[5] as it stands before the refresh (R173, R291). -/
def execTuneSetFreq (s : State) : Result :=
  guarded .tuneSetFreq s
    (if s.valid[5] then
      match channelSpacing s with
      | none => .next (raise .illegalConfig s)
      | some sp =>
        let chan := channelOf (bandMinimum s) (bandMaximum s) sp (freqOperand 0 s)
        if chanMax < chan then .fault .channelRange else startTune (BitVec.ofNat 10 chan) s
    else .fault .shadowUnwritten)

/-- TUNE_GET_FREQ (R180): from the freshly read channel, band and spacing. -/
def execTuneGetFreq (s : State) : Result :=
  guarded .tuneGetFreq s
    (.next (if (refresh s).1 then
        match channelSpacing (refresh s).2 with
        | none => raise .illegalConfig (refresh s).2
        | some sp =>
          complete (BitVec.ofNat 32 (frequencyOf (reportedChannel (refresh s).2) sp (bandMinimum (refresh s).2))) .ok
            (refresh s).2
      else complete 0 .busFailure (refresh s).2))

/-- TUNE_IS_READY (R181). -/
def execTuneIsReady (s : State) : Result :=
  guarded .tuneIsReady s (isReadySeq s fun done ok t => .next (complete (boolWord done) (busOutcome ok) t))

/-- A band limit of SHADOW[5] as it stands, with no bus event (R182, R183). -/
def reportLimit (limit : State → Nat) (s : State) : Result :=
  if s.valid[5] then .next (complete (BitVec.ofNat 32 (limit s)) .ok s) else .fault .shadowUnwritten

/-- TUNE_GET_MIN (R182). -/
def execTuneGetMin (s : State) : Result := guarded .tuneGetMin s (reportLimit bandMinimum s)

/-- TUNE_GET_MAX (R183). -/
def execTuneGetMax (s : State) : Result := guarded .tuneGetMax s (reportLimit bandMaximum s)

/-- The two identifier registers hold the expected values under their masks (R184). -/
def identified (s : State) : Bool :=
  decide (s.shadow[0] &&& s.params.id0Mask = s.params.id0Expect)
    && decide (s.shadow[1] &&& s.params.id1Mask = s.params.id1Expect)

/-- TUNER_IS_CONNECTED (R184): a mismatch is RESULT 0 with ERR OK. -/
def execTunerIsConnected (s : State) : Result :=
  guarded .tunerIsConnected s (refreshAndReport (fun t => boolWord (identified t)) s)

/-- TUNER_INIT (R190): the detector and the decoder are reset even if the refresh fails. -/
def execTunerInit (s : State) : Result :=
  guarded .tunerInit s
    (let r := refresh (rdsClear { s with readyEdge := .idle })
     .next (complete (boolWord r.1) (busOutcome r.1) r.2))

/-- TUNER_IS_TUNED (R191). -/
def execTunerIsTuned (s : State) : Result :=
  guarded .tunerIsTuned s (refreshAndReport (fun t => boolWord (tuneComplete t)) s)

/-- TUNER_IS_STEREO (R192). -/
def execTunerIsStereo (s : State) : Result :=
  guarded .tunerIsStereo s (refreshAndReport (fun t => boolWord (t.shadow[10].getLsbD t.params.fields.st)) s)

/-- TUNER_GET_RSSI (R193). -/
def execTunerGetRssi (s : State) : Result :=
  guarded .tunerGetRssi s
    (refreshAndReport (fun t => (t.shadow[10].extractLsb' t.params.fields.rssi 8).setWidth 32) s)

/-- The shape of the commands that change SHADOW[2]: refresh, change, commit and report (R194-R197). -/
def changePower (f : Params → Half → Half) (s : State) : State := setShadow 2 (f s.params s.shadow[2]) s

/-- TUNER_SET_MONO (R194). -/
def execTunerSetMono (s : State) : Result :=
  guarded .tunerSetMono s
    (withRefresh s fun t =>
      commitAndReport (changePower (fun p v => setBit v p.fields.mono (bitOperand 0 s)) t))

/-- TUNER_SET_SOFTMUTE (R195): `SHADOW[2][15] <- 1 - b`. -/
def execTunerSetSoftmute (s : State) : Result :=
  guarded .tunerSetSoftmute s
    (withRefresh s fun t =>
      commitAndReport (changePower (fun p v => setBit v p.fields.dsmute (!bitOperand 0 s)) t))

/-- TUNER_SLEEP (R196): the decoder is not reset. -/
def execTunerSleep (s : State) : Result :=
  guarded .tunerSleep s
    (withRefresh s fun t => commitAndReport (changePower (fun p v => (v &&& ~~~p.pwrMask) ||| p.pwrSleep) t))

/-- TUNER_WAKEUP (R197): a successful commit resets the decoder. -/
def execTunerWakeup (s : State) : Result :=
  guarded .tunerWakeup s
    (withRefresh s fun t =>
      withCommit (changePower (fun p v => (v &&& ~~~p.pwrMask) ||| p.pwrWake) t) fun ok u =>
        .next (complete (boolWord ok) (busOutcome ok) (if ok then rdsClear u else u)))

/-- TUNE_SEEK_UP (R198): a no-op. -/
def execTuneSeekUp (s : State) : Result := guarded .tuneSeekUp s (.next (complete 0 .ok s))

/-- TUNE_SEEK_DOWN (R199): a no-op. -/
def execTuneSeekDown (s : State) : Result := guarded .tuneSeekDown s (.next (complete 0 .ok s))

end Sys2Proof.Machine
end

