-- ==== Sys2Proof/Machine/Dispatch.lean ====
section
/-! DEFINITION. The dispatch of the thirty commands (30_encoding.md R92) to their meanings. -/
namespace Sys2Proof.Machine

def exec (i : Instr) (s : State) : Host.Outcome State Fault Refusal :=
  match i with
  | .busStart => Sys2Proof.Machine.execBusStart s
  | .busStop => Sys2Proof.Machine.execBusStop s
  | .busAddr => Sys2Proof.Machine.execBusAddr s
  | .busSendByte => Sys2Proof.Machine.execBusSendByte s
  | .busSend => Sys2Proof.Machine.execBusSend s
  | .busRecv => Sys2Proof.Machine.execBusRecv s
  | .busWrite => Sys2Proof.Machine.execBusWrite s
  | .busRead => Sys2Proof.Machine.execBusRead s
  | .rfRefresh => Sys2Proof.Machine.execRfRefresh s
  | .rfCommit => Sys2Proof.Machine.execRfCommit s
  | .rfSet => Sys2Proof.Machine.execRfSet s
  | .tunerInit => Sys2Proof.Machine.execTunerInit s
  | .tuneSetFreq => Sys2Proof.Machine.execTuneSetFreq s
  | .tuneGetFreq => Sys2Proof.Machine.execTuneGetFreq s
  | .tuneIsReady => Sys2Proof.Machine.execTuneIsReady s
  | .tunerIsConnected => Sys2Proof.Machine.execTunerIsConnected s
  | .tuneGetMin => Sys2Proof.Machine.execTuneGetMin s
  | .tuneGetMax => Sys2Proof.Machine.execTuneGetMax s
  | .tunerIsTuned => Sys2Proof.Machine.execTunerIsTuned s
  | .tunerIsStereo => Sys2Proof.Machine.execTunerIsStereo s
  | .tunerGetRssi => Sys2Proof.Machine.execTunerGetRssi s
  | .tunerSetMono => Sys2Proof.Machine.execTunerSetMono s
  | .tunerSetSoftmute => Sys2Proof.Machine.execTunerSetSoftmute s
  | .tunerSleep => Sys2Proof.Machine.execTunerSleep s
  | .tunerWakeup => Sys2Proof.Machine.execTunerWakeup s
  | .tuneSeekUp => Sys2Proof.Machine.execTuneSeekUp s
  | .tuneSeekDown => Sys2Proof.Machine.execTuneSeekDown s
  | .rdsPoll => Sys2Proof.Machine.execRdsPoll s
  | .rdsDecode => Sys2Proof.Machine.execRdsDecode s
  | .rdsReset => Sys2Proof.Machine.execRdsReset s

end Sys2Proof.Machine
end

