-- ==== Sys2Proof/Decode.lean ====
section
/-! DEFINITION. The decoder and the encoder of command words (30_encoding.md R90-R92, R95, R98). -/
namespace Sys2Proof

/-- Why a command word selects no command (R91, R98). Either reason ends the command with ILLEGAL_COMMAND. -/
inductive DecodeError where
  /-- Bits 31:8, the ZERO field, are not 0. -/
  | zeroField
  /-- Bits 7:0 hold an opcode that the opcode map does not assign. -/
  | unassigned (opcode : Byte)
  deriving DecidableEq, Repr

/-- The OPCODE field of a command word, bits 7:0 (R90). -/
def opcodeField (w : Word) : Byte := w.extractLsb' 0 8

/-- The ZERO field of a command word, bits 31:8 (R90). -/
def zeroField (w : Word) : BitVec 24 := w.extractLsb' 8 24

/-- The opcode of each command (R92). -/
def opcode : Instr → Byte
  | .busStart => 0x10
  | .busStop => 0x11
  | .busAddr => 0x12
  | .busSendByte => 0x13
  | .busSend => 0x14
  | .busRecv => 0x15
  | .busWrite => 0x16
  | .busRead => 0x17
  | .rfRefresh => 0x20
  | .rfCommit => 0x21
  | .rfSet => 0x22
  | .tunerInit => 0x30
  | .tuneSetFreq => 0x31
  | .tuneGetFreq => 0x32
  | .tuneIsReady => 0x33
  | .tunerIsConnected => 0x34
  | .tuneGetMin => 0x35
  | .tuneGetMax => 0x36
  | .tunerIsTuned => 0x37
  | .tunerIsStereo => 0x38
  | .tunerGetRssi => 0x39
  | .tunerSetMono => 0x3A
  | .tunerSetSoftmute => 0x3B
  | .tunerSleep => 0x3C
  | .tunerWakeup => 0x3D
  | .tuneSeekUp => 0x3E
  | .tuneSeekDown => 0x3F
  | .rdsPoll => 0x40
  | .rdsDecode => 0x41
  | .rdsReset => 0x42

/-- The command an opcode selects, where the opcode map assigns one (R92). -/
def instrOfOpcode (op : Byte) : Option Instr :=
  match op.toNat with
  | 0x10 => some .busStart
  | 0x11 => some .busStop
  | 0x12 => some .busAddr
  | 0x13 => some .busSendByte
  | 0x14 => some .busSend
  | 0x15 => some .busRecv
  | 0x16 => some .busWrite
  | 0x17 => some .busRead
  | 0x20 => some .rfRefresh
  | 0x21 => some .rfCommit
  | 0x22 => some .rfSet
  | 0x30 => some .tunerInit
  | 0x31 => some .tuneSetFreq
  | 0x32 => some .tuneGetFreq
  | 0x33 => some .tuneIsReady
  | 0x34 => some .tunerIsConnected
  | 0x35 => some .tuneGetMin
  | 0x36 => some .tuneGetMax
  | 0x37 => some .tunerIsTuned
  | 0x38 => some .tunerIsStereo
  | 0x39 => some .tunerGetRssi
  | 0x3A => some .tunerSetMono
  | 0x3B => some .tunerSetSoftmute
  | 0x3C => some .tunerSleep
  | 0x3D => some .tunerWakeup
  | 0x3E => some .tuneSeekUp
  | 0x3F => some .tuneSeekDown
  | 0x40 => some .rdsPoll
  | 0x41 => some .rdsDecode
  | 0x42 => some .rdsReset
  | _ => none

/-- Decoding (R91): total; a word whose ZERO field is not 0, or whose opcode is unassigned, is refused by name. -/
def decode (w : Word) : Except DecodeError Instr :=
  if zeroField w ≠ 0 then .error .zeroField
  else
    match instrOfOpcode (opcodeField w) with
    | some i => .ok i
    | none => .error (.unassigned (opcodeField w))

/-- The command word of a command: its opcode, zero-extended (R95). -/
def encode (i : Instr) : Word := (opcode i).setWidth 32

/-- The command the decoder reads from the `nbits` low bits of `w`, every higher bit 0. A command is one 32-bit
word (R99), so anything longer is refused. -/
def decodeTableWord (nbits w : Nat) : Option Instr :=
  if 32 < nbits then none
  else
    match decode (BitVec.ofNat 32 (w % 2 ^ nbits)) with
    | .ok i => some i
    | .error _ => none

end Sys2Proof
end

