-- ==== Sys2Proof/Machine/HostPort.lean ====
section
/-! DEFINITION. The host port (20_memory.md R60-R66) and the host's program notation (30_encoding.md R100, R101). -/
namespace Sys2Proof.Machine

/-- A place of the host register map (R61). -/
inductive HostReg where
  | cmd
  | arg (i : Fin 4)
  | result
  | status
  | edge
  | ptyreg
  | xbuf (i : Fin 32)
  | shadow (i : Fin 16)
  | ps (i : Fin 8)
  | rt (i : Fin 64)
  /-- 0x024-0x0FC, 0x1E0-0x1FC and 0x300-0xFFC (R61, R62). -/
  | reserved
  deriving DecidableEq, Repr

/-- The register at an address of the host register map (R61); bits 1:0 of the address do not select. -/
def hostReg (addr : BitVec 12) : HostReg :=
  let w := addr.toNat / 4
  if w = 0x00 then .cmd
  else if w ≤ 0x04 then .arg (Fin.ofNat 4 (w - 0x01))
  else if w = 0x05 then .result
  else if w = 0x06 then .status
  else if w = 0x07 then .edge
  else if w = 0x08 then .ptyreg
  else if w < 0x40 then .reserved
  else if w < 0x60 then .xbuf (Fin.ofNat 32 (w - 0x40))
  else if w < 0x70 then .shadow (Fin.ofNat 16 (w - 0x60))
  else if w < 0x78 then .ps (Fin.ofNat 8 (w - 0x70))
  else if w < 0x80 then .reserved
  else if w < 0xC0 then .rt (Fin.ofNat 64 (w - 0x80))
  else .reserved

/-- The shape every host access has: four bytes wide, at a multiple of four (R62). -/
def accessShape (addr : BitVec 12) (width : Nat) : Bool := decide (width = 4) && decide (addr.extractLsb' 0 2 = 0)

/-- What a register reads as (R65); a byte or register never written has no value to read. -/
def readReg (r : HostReg) (s : State) : Except Fault Word :=
  match r with
  | .cmd => .ok 0
  | .arg i => .ok s.arg[i]
  | .result => .ok s.result
  | .status => .ok (statusWord s)
  | .edge => .ok (edgeWord s)
  | .ptyreg => .ok (ptyWord s)
  | .xbuf i => if s.xvalid[i] then .ok (s.xbuf[i].setWidth 32) else .error .xbufUnwritten
  | .shadow i => if s.valid[i] then .ok (s.shadow[i].setWidth 32) else .error .shadowUnwritten
  | .ps i => .ok (s.ps[i].setWidth 32)
  | .rt i => .ok (s.rt[i].setWidth 32)
  | .reserved => .ok 0

/-- `HostRead(addr, width)` (R62, R65): a value or a fault, and no effect on the controller. -/
def hostRead (addr : BitVec 12) (width : Nat) (s : State) : Except Fault Word :=
  if accessShape addr width then readReg (hostReg addr) s else .error .hostAccessShape

/-- A write of a command word to CMD (R23, R63): accepted when the controller is not busy, else dropped. -/
def issueCommand (w : Word) (s : State) : State :=
  if busy s then { s with drop := true } else { s with pending := some w, larg := s.arg, drop := false }

/-- What a write to a register does (R62-R64); a register the host may only read ignores it. -/
def writeReg (r : HostReg) (v : Word) (s : State) : State :=
  match r with
  | .cmd => issueCommand v s
  | .arg i => { s with arg := s.arg.set i v }
  | .xbuf i => { s with xbuf := s.xbuf.set i (v.extractLsb' 0 8), xvalid := s.xvalid.set i true }
  | .result | .status | .edge | .ptyreg | .shadow _ | .ps _ | .rt _ | .reserved => s

/-- `HostWrite(addr, width, value)` (R62-R64). -/
def hostWrite (addr : BitVec 12) (width : Nat) (value : Word) (s : State) : Result :=
  if accessShape addr width then .next (writeReg (hostReg addr) value s) else .fault .hostAccessShape

/-- The host has read a value: the model keeps it, the controller is unchanged (R65). -/
def noteRead (addr : BitVec 12) (v : Word) (s : State) : State := { s with hostReads := s.hostReads ++ [(addr, v)] }

/-- The host's turn to read. -/
def hostReadTurn (addr : BitVec 12) (width : Nat) (s : State) : Result :=
  match hostRead addr width s with
  | .ok v => .next (noteRead addr v s)
  | .error x => .fault x

/-- The address of STATUS (R61). -/
def statusAddr : BitVec 12 := 0x018

/-- One round of the host's WAIT (R100): STATUS is read; while BUSY reads 1, a controller step and another round
follow. -/
def hostWaitTurn (s : State) : Result :=
  let t := noteRead statusAddr (statusWord s) s
  .next (if busy s then { t with schedule := .controller :: .hostWait :: t.schedule } else t)

/-- The address of ARG[i] (R61). -/
def argAddr (i : Nat) : BitVec 12 := BitVec.ofNat 12 (0x004 + 4 * i)

/-- The host's pseudo-instruction `<MNEMONIC> a0, a1, …` (R101): the arguments to ARG0 on, the command word to CMD,
then WAIT. -/
def hostCall (i : Instr) (args : List Word) : List Turn :=
  args.mapIdx (fun k a => Turn.hostWrite (argAddr k) 4 a) ++ [.hostWrite 0x000 4 (encode i), .hostWait]

end Sys2Proof.Machine
end

