-- ==== Sys2Proof/Machine/Sequencer.lean ====
section
/-! DEFINITION. The command sequencer, the controller's steps (10_state.md R22, R23), power-on reset (70_reset_and_hazards.md
R270, R271) and the turns of the interleaving (R20, R73). -/
namespace Sys2Proof.Machine

/-- Execute a command word (R91): the command it selects, or ILLEGAL_COMMAND; then the command is no longer pending
(R23). -/
def executeWord (w : Word) (s : State) : Result :=
  mapNext (fun t => { t with pending := none })
    (match decode w with
     | .ok i => exec i s
     | .error _ => .next (raise .illegalCommand s))

/-- A controller step (R23): a poll while a tune is in progress, else the pending command. With neither there is no
controller step, and the machine waits as it is (R272). -/
def controllerStep (s : State) : Result :=
  match s.seq, s.pending with
  | .tuning, _ => pollIteration s
  | .idle, some w => executeWord w s
  | .idle, none => .next s

/-- An event that draws an answer from the bus environment: every event but a stop (R113). -/
def drawsAnswer : BusEvent → Bool
  | .stop => false
  | .start _ | .addr _ _ | .tx _ _ | .rx _ _ _ => true

/-- The bus events the controller's current step has sent when a reset cuts it after `n` of them (R271); none if the
controller has no step or the step sends none. -/
def eventsBeforeReset (n : Nat) (s : State) : List BusEvent :=
  match controllerStep s with
  | .next t => (t.history.drop s.history.length).take n
  | .fault _ => []
  | .refused _ => []

/-- Power-on reset (R270, R271): every piece of state at its reset value. A reset while a command is in progress
abandons it and the history keeps the events sent so far; otherwise the history is empty. The parameters, the turns to
come, the host's own notes and the answers not drawn yet are not the controller's and stay. -/
def powerOnReset (n : Nat) (s : State) : State :=
  let sent := if busy s then eventsBeforeReset n s else []
  let drawn := (sent.filter drawsAnswer).length
  { State.reset with
    bsc := s.params.sc.noInfo
    history := if busy s then s.history ++ sent else []
    params := s.params
    answers := s.answers.drop drawn
    draws := s.draws + drawn
    schedule := s.schedule
    hostReads := s.hostReads }

/-- What happens in one turn (R20). -/
def takeTurn (t : Turn) (s : State) : Result :=
  match t with
  | .hostRead addr width => hostReadTurn addr width s
  | .hostWrite addr width value => hostWrite addr width value s
  | .hostWait => hostWaitTurn s
  | .controller => controllerStep s
  | .powerOnReset n => .next (powerOnReset n s)

/-- The turn the scheduler gives next: the first one listed, else the controller's (R20). -/
def nextTurn (s : State) : Turn := s.schedule.headD .controller

/-- The state with that turn taken off the schedule. -/
def takeOff (s : State) : State := { s with schedule := s.schedule.tail }

/-- The state in which the controller's very next step executes the command word `w`, as if the host had just had it
accepted (R23): it is pending, no tune is in progress and no other turn comes before. -/
def placeCommand (w : Word) (s : State) : State := { s with pending := some w, seq := .idle, schedule := [] }

end Sys2Proof.Machine
end

