-- ==== Sys2Proof/Machine/Step.lean ====
section
/-! DEFINITION. One step of the machine: one turn of the interleaving of host accesses and controller steps (10_state.md
R20, R23; 20_memory.md R66, R73). -/
namespace Sys2Proof.Machine

/-- One step: the next turn is taken off the schedule and happens. -/
def step (s : State) : Host.Outcome State Fault Refusal := takeTurn (nextTurn s) (takeOff s)

/-- `s` with the command of the `nbits` low bits of `w` (every higher bit 0) pending, so that the very next step
executes it. -/
def State.withFetchWord (s : State) (nbits w : Nat) : State := placeCommand (BitVec.ofNat 32 (w % 2 ^ nbits)) s

end Sys2Proof.Machine
end

