-- ==== Sys2Proof/WellFormed.lean ====
section
/-! DEFINITION. Well-formedness: of a command word (30_encoding.md R90, R98) and of the parameters (42_tuning.md R171,
R178; 10_state.md R34). A command has no operand fields, so every term of `Instr` is well formed; the legality of the
latched operands is checked when the command executes (Machine/Operands.lean, R96). -/
namespace Sys2Proof

/-- The ZERO field of a command word, bits 31:8, holds 0 (R90). -/
def zeroFieldClear (w : Word) : Bool := w.extractLsb' 8 24 = 0

/-- The opcode ranges of the opcode map: 0x10-0x17, 0x20-0x22, 0x30-0x3F, 0x40-0x42 (R92, R98). -/
def assignedOpcode (op : Byte) : Bool :=
  (0x10 ≤ op.toNat && op.toNat ≤ 0x17) || (0x20 ≤ op.toNat && op.toNat ≤ 0x22)
    || (0x30 ≤ op.toNat && op.toNat ≤ 0x42)

/-- A command word that selects a command (R91, R98). -/
def wellFormedWord (w : Word) : Bool := zeroFieldClear w && assignedOpcode (w.extractLsb' 0 8)

/-- A replacement of the band tables keeps BAND_MIN(b) ≤ BAND_MAX(b) (R171). -/
def wellFormedBands (p : Params) : Bool :=
  decide (p.bandMin.b0 ≤ p.bandMax.b0) && decide (p.bandMin.b1 ≤ p.bandMax.b1)
    && decide (p.bandMin.b2 ≤ p.bandMax.b2) && decide (p.bandMin.b3 ≤ p.bandMax.b3)

/-- A replacement of the spacing table keeps SPACING(s) ≥ 1 (R171). -/
def wellFormedSpacing (p : Params) : Bool :=
  decide (1 ≤ p.spacing.s0) && decide (1 ≤ p.spacing.s1) && decide (1 ≤ p.spacing.s2)

/-- A finite MAX_TUNE_POLLS is at least 1 (R178). -/
def wellFormedBound (p : Params) : Bool := p.maxTunePolls.all (fun n => decide (1 ≤ n))

/-- Every field lies inside its 16-bit register, and the tune-request bit lies outside the channel field (R34). -/
def wellFormedFields (p : Params) : Bool :=
  let f := p.fields
  decide (f.dsmute < 16) && decide (f.mono < 16) && decide (f.tune < 16) && decide (f.chan + 10 ≤ 16)
    && (decide (f.tune < f.chan) || decide (f.chan + 10 ≤ f.tune))
    && decide (f.band + 2 ≤ 16) && decide (f.space + 2 ≤ 16) && decide (f.rdsr < 16) && decide (f.stc < 16)
    && decide (f.st < 16) && decide (f.rssi + 8 ≤ 16) && decide (f.readchan + 10 ≤ 16)

/-- The parameters keep what the spec asks of a replacement (R34, R171, R178). -/
def wellFormedParams (p : Params) : Bool :=
  wellFormedBands p && wellFormedSpacing p && wellFormedBound p && wellFormedFields p

end Sys2Proof
end

