-- ==== Sys2Proof/Safety.lean ====
section
/-! DEFINITION. What counts as a safe run: a step goes on, and the invariants of the machine that the spec's rules give
(10_state.md R22, R24, R29, R30, R40; 42_tuning.md R175-R179; 40_bus.md R117). -/
namespace Sys2Proof.Machine

/-- A result that neither stops with a model fault (R258) nor is refused. -/
def completes (r : Result) : Bool :=
  match r with
  | .next _ => true
  | .fault _ => false
  | .refused _ => false

/-- The next step goes on. -/
def StepsOn (s : State) : Prop := completes (step s) = true

/-- PTY holds -1 or 0 to 31, "Its only values" (R40). -/
def ptyLegal (s : State) : Bool := decide (s.pty = -1) || decide (s.pty.toNat < 32)

/-- What holds in every state of a machine with well-formed parameters (R40, R175-R179): PTY is legal, and while a tune
is in progress no command is pending, the bus is idle, the whole shadow file has been written, and the polls made have
not reached MAX_TUNE_POLLS. -/
structure Invariant (s : State) : Prop where
  params : wellFormedParams s.params = true
  pty : ptyLegal s = true
  tunePending : s.seq = .tuning → s.pending = none
  tunePhase : s.seq = .tuning → s.phase = .idle
  tuneValid : s.seq = .tuning → s.valid = .replicate 16 true
  tunePolls : s.seq = .tuning → pollsExhausted s.params s.polls = false

/-- A transaction is open on the bus: something was sent, and the last event was not a stop (R42, R284). -/
def transactionOpen (h : List BusEvent) : Bool :=
  match h.getLast? with
  | none => false
  | some .stop => false
  | some (.start _) | some (.addr _ _) | some (.tx _ _) | some (.rx _ _ _) => true

/-- The code that the last event of a history leaves in BSC (R29, R112). -/
def lastCode (noInfo : Byte) (h : List BusEvent) : Byte :=
  match h.getLast? with
  | none => noInfo
  | some .stop => noInfo
  | some (.start sc) | some (.addr _ sc) | some (.tx _ sc) | some (.rx _ _ sc) => sc

/-- PHASE and BSC agree with the bus history: the phase is Idle exactly when no transaction is open, so that no start is
left dangling behind an idle phase (R30, R284), and BSC is the last event's code (R29). -/
structure BusCoherent (s : State) : Prop where
  phase : s.phase = .idle ↔ transactionOpen s.history = false
  code : s.bsc = lastCode s.params.sc.noInfo s.history

/-- The next turn is a power-on reset. -/
def resetsNext (s : State) : Bool :=
  match nextTurn s with
  | .powerOnReset _ => true
  | .hostRead _ _ | .hostWrite _ _ _ | .hostWait | .controller => false

end Sys2Proof.Machine
end

