-- ==== Sys2Proof/Certificates/Slice0/Obligations.lean ====
section
/-! DEFINITION. The statements for the provers, from the numbered rules of spec/. A next state is written as an update of
the state before: every field the update does not name is unchanged, which is the statement's frame. The parameters
(status codes, field positions, band tables, power bits) are those of the state, whatever they are; statement
ParametersAfterReset says what they are after reset. Where a value is the model's choice the docstring names the log
entry. -/

open Sys2Proof Sys2Proof.Machine

/-! ### Encoding -/

/-- R91, R92, R95: the decoder reads exactly the encoded word of each command, and nothing else selects it. -/
def Obligations.DecodeAndEncodeAgree : Prop :=
  ∀ (w : Word) (i : Instr), decode w = .ok i ↔ w = encode i

/-- R92: words written out bit by bit from the opcode map decode to their commands. -/
def Obligations.TableWordsDecode : Prop :=
  decode 0b00000000000000000000000000010000#32 = .ok .busStart ∧
  decode 0b00000000000000000000000000010111#32 = .ok .busRead ∧
  decode 0b00000000000000000000000000100010#32 = .ok .rfSet ∧
  decode 0b00000000000000000000000000110001#32 = .ok .tuneSetFreq ∧
  decode 0b00000000000000000000000000111111#32 = .ok .tuneSeekDown ∧
  decode 0b00000000000000000000000001000001#32 = .ok .rdsDecode

/-- R91, R98: the illegal words, and what executing one does: ILLEGAL_COMMAND, RESULT 0, the word no longer pending, and
no other effect. -/
def Obligations.IllegalWordsRaiseIllegalCommand : Prop :=
  (∀ w : Word, (∃ e, decode w = .error e) ↔
    (w.extractLsb' 8 24 ≠ 0 ∨ (w.extractLsb' 0 8).toNat ≤ 0x0F ∨
      (0x18 ≤ (w.extractLsb' 0 8).toNat ∧ (w.extractLsb' 0 8).toNat ≤ 0x1F) ∨
      (0x23 ≤ (w.extractLsb' 0 8).toNat ∧ (w.extractLsb' 0 8).toNat ≤ 0x2F) ∨
      0x43 ≤ (w.extractLsb' 0 8).toNat)) ∧
  (∀ (s : State) (w : Word), s.seq = .idle → s.pending = some w → nextTurn s = .controller →
    (∃ e, decode w = .error e) →
      step s = .next { s with schedule := s.schedule.tail, pending := none, result := 0, err := .illegalCommand })

/-! ### Steps and turns -/

/-- R23: a step at a pending word that decodes to a command is that command's effect, after which nothing is pending; the
controller's turn is taken off the schedule first. -/
def Obligations.StepRunsDecodedCommand : Prop :=
  ∀ (s : State) (w : Word) (i : Instr),
    s.seq = .idle → s.pending = some w → nextTurn s = .controller → decode w = .ok i →
      step s = mapNext (fun t => { t with pending := none }) (exec i { s with schedule := s.schedule.tail })

/-- R20, R23, R100, R272: the other turns. A host access happens at its turn; with nothing pending and no tune in progress
the machine waits as it is (log entry 4: the model lets that turn pass). A round of the host's WAIT reads STATUS; while BUSY
reads 1 a controller turn and another round come first (log entry 5: the model's order of turns). -/
def Obligations.OtherTurnsOfAStep : Prop :=
  ∀ s : State,
    (s.seq = .idle → s.pending = none → nextTurn s = .controller →
      step s = .next { s with schedule := s.schedule.tail }) ∧
    (∀ addr width, nextTurn s = .hostRead addr width →
      (∀ v, hostRead addr width s = .ok v →
        step s = .next { s with schedule := s.schedule.tail, hostReads := s.hostReads ++ [(addr, v)] }) ∧
      (∀ x, hostRead addr width s = .error x → step s = .fault x)) ∧
    (∀ addr width value, nextTurn s = .hostWrite addr width value →
      step s = hostWrite addr width value { s with schedule := s.schedule.tail }) ∧
    (nextTurn s = .hostWait → ∀ st, hostRead 0x018 4 s = .ok st →
      (st.getLsbD 8 = true ↔ s.pending ≠ none ∨ s.seq = .tuning) ∧
      (st.getLsbD 8 = true →
        step s = .next { s with schedule := .controller :: .hostWait :: s.schedule.tail,
                                hostReads := s.hostReads ++ [(0x018, st)] }) ∧
      (st.getLsbD 8 = false →
        step s = .next { s with schedule := s.schedule.tail, hostReads := s.hostReads ++ [(0x018, st)] }))

/-! ### The host port -/

/-- R23, R63: a CMD write is accepted when the controller is not busy, and dropped when it is. -/
def Obligations.CmdWriteIsAcceptedOrDropped : Prop :=
  ∀ (s : State) (w : Word),
    (s.pending = none → s.seq = .idle →
      hostWrite 0x000 4 w s = .next { s with pending := some w, larg := s.arg, drop := false }) ∧
    (s.pending ≠ none ∨ s.seq = .tuning → hostWrite 0x000 4 w s = .next { s with drop := true })

/-- R64: writes to ARG, at any time, and to XBUF, whose upper bits are ignored. -/
def Obligations.ArgAndXbufWritesStore : Prop :=
  ∀ (s : State) (v : Word),
    (∀ i : Fin 4, hostWrite (BitVec.ofNat 12 (0x004 + 4 * i.val)) 4 v s = .next { s with arg := s.arg.set i v }) ∧
    (∀ i : Fin 32, hostWrite (BitVec.ofNat 12 (0x100 + 4 * i.val)) 4 v s =
      .next { s with xbuf := s.xbuf.set i (v.extractLsb' 0 8), xvalid := s.xvalid.set i true })

/-- R62: the shape every host access has, the reserved addresses, and the writes that are ignored. -/
def Obligations.HostAccessShapeAndReservedAddresses : Prop :=
  ∀ (s : State) (addr : BitVec 12) (width : Nat) (v : Word),
    (width ≠ 4 ∨ addr.extractLsb' 0 2 ≠ 0 →
      hostRead addr width s = .error .hostAccessShape ∧ hostWrite addr width v s = .fault .hostAccessShape) ∧
    (addr.extractLsb' 0 2 = 0 →
      ((0x024 ≤ addr.toNat ∧ addr.toNat ≤ 0x0FC) ∨ (0x1E0 ≤ addr.toNat ∧ addr.toNat ≤ 0x1FC) ∨ 0x300 ≤ addr.toNat →
        hostRead addr 4 s = .ok 0) ∧
      ((0x014 ≤ addr.toNat ∧ addr.toNat ≤ 0x0FC) ∨ 0x180 ≤ addr.toNat → hostWrite addr 4 v s = .next s))

/-- R65: what each register of the host map reads as, and that a read changes nothing of the controller. -/
def Obligations.HostReadReturnsTheRegister : Prop :=
  ∀ s : State,
    hostRead 0x000 4 s = .ok 0 ∧
    (∀ i : Fin 4, hostRead (BitVec.ofNat 12 (0x004 + 4 * i.val)) 4 s = .ok s.arg[i]) ∧
    hostRead 0x014 4 s = .ok s.result ∧
    hostRead 0x018 4 s = .ok (statusWord s) ∧
    hostRead 0x01C 4 s = .ok (edgeWord s) ∧
    hostRead 0x020 4 s = .ok (ptyWord s) ∧
    (∀ i : Fin 32, hostRead (BitVec.ofNat 12 (0x100 + 4 * i.val)) 4 s =
      if s.xvalid[i] then .ok (s.xbuf[i].setWidth 32) else .error .xbufUnwritten) ∧
    (∀ i : Fin 16, hostRead (BitVec.ofNat 12 (0x180 + 4 * i.val)) 4 s =
      if s.valid[i] then .ok (s.shadow[i].setWidth 32) else .error .shadowUnwritten) ∧
    (∀ i : Fin 8, hostRead (BitVec.ofNat 12 (0x1C0 + 4 * i.val)) 4 s = .ok (s.ps[i].setWidth 32)) ∧
    (∀ i : Fin 64, hostRead (BitVec.ofNat 12 (0x200 + 4 * i.val)) 4 s = .ok (s.rt[i].setWidth 32)) ∧
    (∀ addr : BitVec 12, addr.extractLsb' 0 2 = 0 →
      (0x024 ≤ addr.toNat ∧ addr.toNat ≤ 0x0FC) ∨ (0x1E0 ≤ addr.toNat ∧ addr.toNat ≤ 0x1FC) ∨ 0x300 ≤ addr.toNat →
        hostRead addr 4 s = .ok 0) ∧
    (∀ addr width t, hostReadTurn addr width s = .next t → t = { s with hostReads := t.hostReads })

/-- R24 to R27: what the host reads of STATUS, EDGE and PTYREG, field by field; host writes to them are ignored. -/
def Obligations.StatusEdgeAndPtyregViews : Prop :=
  ∀ (s : State) (v : Word),
    (∃ st, hostRead 0x018 4 s = .ok st ∧ hostWrite 0x018 4 v s = .next s ∧
      st.extractLsb' 0 8 = s.bsc ∧
      st.getLsbD 8 = decide (s.pending ≠ none ∨ s.seq = .tuning) ∧
      st.getLsbD 9 = s.drop ∧
      st.extractLsb' 10 2 = 0 ∧
      st.extractLsb' 12 4 =
        (match s.err with
         | .ok => 0
         | .illegalCommand => 1
         | .illegalOperand => 2
         | .illegalSequence => 3
         | .busFailure => 4
         | .tuneTimeout => 5
         | .illegalConfig => 6) ∧
      st.extractLsb' 16 3 =
        (match s.phase with
         | .idle => 0
         | .started => 1
         | .masterTx => 2
         | .masterRx => 3
         | .held => 4) ∧
      st.extractLsb' 19 13 = 0) ∧
    (∃ e, hostRead 0x01C 4 s = .ok e ∧ hostWrite 0x01C 4 v s = .next s ∧
      e.getLsbD 0 = decide (s.readyEdge = .armedForFall) ∧ e.getLsbD 1 = s.textAB ∧ e.extractLsb' 2 30 = 0) ∧
    hostRead 0x020 4 s = .ok (s.pty.signExtend 32) ∧ hostWrite 0x020 4 v s = .next s ∧
    (s.pty = -1 → hostRead 0x020 4 s = .ok 0xFFFFFFFF) ∧
    (s.pty.toNat < 32 → hostRead 0x020 4 s = .ok (BitVec.ofNat 32 s.pty.toNat))

/-! ### The checks of a command -/

/-- R93, R94: the operands of each command and the legal values of each form. -/
def Obligations.OperandFormsAreLegalWhen : Prop :=
  (∀ w : Word,
    (formLegal .slave w = true ↔ w.toNat < 128) ∧ (formLegal .dir w = true ↔ w.toNat < 2) ∧
    (formLegal .byte w = true ↔ w.toNat < 256) ∧ (formLegal .count w = true ↔ w.toNat ≤ 32) ∧
    (formLegal .index w = true ↔ 2 ≤ w.toNat ∧ w.toNat ≤ 7) ∧ (formLegal .value16 w = true ↔ w.toNat < 65536) ∧
    formLegal .freq w = true ∧ (formLegal .bool w = true ↔ w.toNat < 2) ∧
    (formLegal .block w = true ↔ w.toNat < 65536)) ∧
  operandForms .busAddr = [(0, .slave), (1, .dir)] ∧ operandForms .busSendByte = [(0, .byte)] ∧
  operandForms .busSend = [(0, .count)] ∧ operandForms .busRecv = [(0, .count)] ∧
  operandForms .busWrite = [(0, .slave), (1, .count)] ∧ operandForms .busRead = [(0, .slave), (1, .count)] ∧
  operandForms .rfSet = [(0, .index), (1, .value16)] ∧ operandForms .tuneSetFreq = [(0, .freq)] ∧
  operandForms .tunerSetMono = [(0, .bool)] ∧ operandForms .tunerSetSoftmute = [(0, .bool)] ∧
  operandForms .rdsDecode = [(0, .block), (1, .block), (2, .block), (3, .block)] ∧
  (∀ i, i ∉ [.busAddr, .busSendByte, .busSend, .busRecv, .busWrite, .busRead, .rfSet, .tuneSetFreq, .tunerSetMono,
    .tunerSetSoftmute, .rdsDecode] → operandForms i = [])

/-- R96, R97: an illegal operand of any command ends it, before anything else, with ILLEGAL_OPERAND and RESULT 0. -/
def Obligations.IllegalOperandHasNoOtherEffect : Prop :=
  ∀ (i : Instr) (s : State), (∃ o ∈ operandForms i, formLegal o.2 s.larg[o.1] = false) →
    exec i s = .next { s with result := 0, err := .illegalOperand }

/-- R117: a command in a phase its row does not allow, its operands legal, ends with ILLEGAL_SEQUENCE and no bus event;
BUS_STOP is legal in every phase. -/
def Obligations.WrongPhaseRaisesIllegalSequence : Prop :=
  (∀ (i : Instr) (s : State), operandsLegal i s = true →
    ((i = .busStart ∧ s.phase = .held) ∨ (i = .busAddr ∧ s.phase ≠ .started) ∨
      (i ∈ [.busSendByte, .busSend] ∧ s.phase ≠ .masterTx) ∨ (i = .busRecv ∧ s.phase ≠ .masterRx) ∨
      (i ∈ [.busWrite, .busRead, .rfRefresh, .rfCommit, .tunerInit, .tuneSetFreq, .tuneGetFreq, .tuneIsReady,
        .tunerIsConnected, .tunerIsTuned, .tunerIsStereo, .tunerGetRssi, .tunerSetMono, .tunerSetSoftmute,
        .tunerSleep, .tunerWakeup, .rdsPoll] ∧ s.phase ≠ .idle)) →
    exec i s = .next { s with result := 0, err := .illegalSequence }) ∧
  (∀ s : State, ∃ t, exec .busStop s = .next t ∧ t.err = .ok)

/-! ### Bus events and sequences -/

/-- R111 to R116: each bus event takes the environment's next answer, which may be any code and any byte, is recorded, and
BSC takes its code. -/
def Obligations.BusEventsAreRecorded : Prop :=
  ∀ s : State,
    (∀ a : BusAnswer, a = nextAnswer .start s →
      busStart s = (a.sc, { s with answers := s.answers.tail, draws := s.draws + 1,
                                   history := s.history ++ [.start a.sc], bsc := a.sc })) ∧
    (∀ (b : Byte) (a : BusAnswer), a = nextAnswer (.addr b) s →
      busAddr b s = (a.sc, { s with answers := s.answers.tail, draws := s.draws + 1,
                                    history := s.history ++ [.addr b a.sc], bsc := a.sc })) ∧
    (∀ (b : Byte) (a : BusAnswer), a = nextAnswer (.tx b) s →
      busTx b s = (a.sc, { s with answers := s.answers.tail, draws := s.draws + 1,
                                  history := s.history ++ [.tx b a.sc], bsc := a.sc })) ∧
    (∀ (ack : Bool) (a : BusAnswer), a = nextAnswer (.rx ack) s →
      busRx ack s = ((a.data, a.sc), { s with answers := s.answers.tail, draws := s.draws + 1,
                                              history := s.history ++ [.rx ack a.data a.sc], bsc := a.sc })) ∧
    busStop s = { s with history := s.history ++ [.stop], bsc := s.params.sc.noInfo, phase := .idle } ∧
    (∀ (slave : BitVec 7) (dir : Bool),
      (addressByte slave dir).extractLsb' 1 7 = slave ∧ (addressByte slave dir).getLsbD 0 = dir) ∧
    (∀ (r : BusRequest) (sc data : Byte) (rest : List BusAnswer),
      nextAnswer r { s with answers := ⟨sc, data⟩ :: rest } = ⟨sc, data⟩)

/-- R119: SendSeq sends the bytes in order up to and including the first that is not acknowledged, answers the count k
accepted, and leaves the phase Held exactly when the count is short. Each code is the environment's next answer at that
point, listed or free. -/
def Obligations.SendSeqStopsAtFirstNak : Prop :=
  ∀ (src : List Byte) (s : State), ∃ (codes : List Byte) (k : Nat),
    k ≤ src.length ∧ codes.length = min src.length (k + 1) ∧
    (∀ i < k, codes[i]? = some s.params.sc.mtDataAck) ∧
    (k < src.length → codes[k]? ≠ some s.params.sc.mtDataAck) ∧
    (∀ i < codes.length, i < s.answers.length → codes[i]? = s.answers[i]?.map (·.sc)) ∧
    (∀ i < codes.length, ∀ b, src[i]? = some b →
      codes[i]? = some (nextAnswer (.tx b) { s with answers := s.answers.drop i, draws := s.draws + i,
                                                    history := s.history ++ List.zipWith .tx src (codes.take i) }).sc) ∧
    sendSeq src s =
      (k, { s with answers := s.answers.drop codes.length, draws := s.draws + codes.length,
                   history := s.history ++ List.zipWith .tx src codes, bsc := codes.getLastD s.bsc,
                   phase := if k = src.length then s.phase else .held })

/-- R120: RecvSeq answers every byte but the last with ACK, ends at the first code it does not expect, drops that byte,
and sends a stop on every path. Each byte and code is the environment's next answer at that point, listed or free. -/
def Obligations.RecvSeqAcknowledgesAllButTheLast : Prop :=
  ∀ (n : Nat) (s : State), ∃ (got : List BusAnswer) (k : Nat),
    k ≤ n ∧ got.length = min n (k + 1) ∧
    (∀ i < k, got[i]?.map (·.sc) = some (rxCode s.params.sc (decide (i + 1 < n)))) ∧
    (k < n → got[k]?.map (·.sc) ≠ some (rxCode s.params.sc (decide (k + 1 < n)))) ∧
    (∀ i < got.length, i < s.answers.length → got[i]? = s.answers[i]?) ∧
    (∀ i < got.length,
      got[i]? = some (nextAnswer (.rx (decide (i + 1 < n)))
        { s with answers := s.answers.drop i, draws := s.draws + i,
                 history := s.history ++
                   (got.take i).mapIdx (fun j a => .rx (decide (j + 1 < n)) a.data a.sc) })) ∧
    recvSeq n s =
      ((got.take k).map (·.data),
        { s with answers := s.answers.drop got.length, draws := s.draws + got.length,
                 history := s.history ++ got.mapIdx (fun i a => .rx (decide (i + 1 < n)) a.data a.sc) ++ [.stop],
                 bsc := s.params.sc.noInfo, phase := .idle })

/-- R121: a write transaction is one start, the address byte, data bytes up to the first not acknowledged, and one stop on
every path; `none` stands for the count 0 of a failed start or address phase. Which of the three it is and how far it comes
is decided by the environment's answers alone, one for each event but the stop: `started` and `opened` are the states in
which the address byte and the first data byte are answered. -/
def Obligations.WriteSeqAlwaysStops : Prop :=
  ∀ (slave : BitVec 7) (src : List Byte) (s started opened : State) (sc c : Byte),
    sc = (nextAnswer .start s).sc →
    started = { s with answers := s.answers.drop 1, draws := s.draws + 1, history := s.history ++ [.start sc], bsc := sc } →
    c = (nextAnswer (.addr (slave ++ 0#1)) started).sc →
    opened = { s with answers := s.answers.drop 2, draws := s.draws + 2,
                      history := s.history ++ [.start sc, .addr (slave ++ 0#1) c], bsc := c } →
    ∃ mid : List BusEvent,
      (writeSeq slave src s).2 =
        { s with answers := s.answers.drop (mid.length + 1), draws := s.draws + (mid.length + 1),
                 history := s.history ++ .start sc :: mid ++ [.stop], bsc := s.params.sc.noInfo, phase := .idle } ∧
      (startOk s.params.sc sc = false → mid = [] ∧ (writeSeq slave src s).1 = none) ∧
      (startOk s.params.sc sc = true → c ≠ s.params.sc.mtSlaAck →
        mid = [.addr (slave ++ 0#1) c] ∧ (writeSeq slave src s).1 = none) ∧
      (startOk s.params.sc sc = true → c = s.params.sc.mtSlaAck →
        ∃ (codes : List Byte) (k : Nat),
          k ≤ src.length ∧ codes.length = min src.length (k + 1) ∧
          (∀ i < k, codes[i]? = some s.params.sc.mtDataAck) ∧
          (k < src.length → codes[k]? ≠ some s.params.sc.mtDataAck) ∧
          (∀ i < codes.length, i + 2 < s.answers.length → codes[i]? = s.answers[i + 2]?.map (·.sc)) ∧
          (∀ i < codes.length, ∀ b, src[i]? = some b →
            codes[i]? = some (nextAnswer (.tx b)
              { opened with answers := opened.answers.drop i, draws := opened.draws + i,
                            history := opened.history ++ List.zipWith .tx src (codes.take i) }).sc) ∧
          mid = .addr (slave ++ 0#1) c :: List.zipWith .tx src codes ∧
          (writeSeq slave src s).1 = some k)

/-- R122: a read transaction is one start, the address byte, received bytes up to the first code not expected, and one
stop on every path; `none` stands for a failed start or address phase. Which of the three it is, how far it comes and what
is received is decided by the environment's answers alone, one for each event but the stop. -/
def Obligations.ReadSeqAlwaysStops : Prop :=
  ∀ (slave : BitVec 7) (len : Nat) (s started opened : State) (sc c : Byte),
    sc = (nextAnswer .start s).sc →
    started = { s with answers := s.answers.drop 1, draws := s.draws + 1, history := s.history ++ [.start sc], bsc := sc } →
    c = (nextAnswer (.addr (slave ++ 1#1)) started).sc →
    opened = { s with answers := s.answers.drop 2, draws := s.draws + 2,
                      history := s.history ++ [.start sc, .addr (slave ++ 1#1) c], bsc := c } →
    ∃ mid : List BusEvent,
      (readSeq slave len s).2 =
        { s with answers := s.answers.drop (mid.length + 1), draws := s.draws + (mid.length + 1),
                 history := s.history ++ .start sc :: mid ++ [.stop], bsc := s.params.sc.noInfo, phase := .idle } ∧
      (startOk s.params.sc sc = false → mid = [] ∧ (readSeq slave len s).1 = none) ∧
      (startOk s.params.sc sc = true → c ≠ s.params.sc.mrSlaAck →
        mid = [.addr (slave ++ 1#1) c] ∧ (readSeq slave len s).1 = none) ∧
      (startOk s.params.sc sc = true → c = s.params.sc.mrSlaAck →
        ∃ (got : List BusAnswer) (k : Nat),
          k ≤ len ∧ got.length = min len (k + 1) ∧
          (∀ i < k, got[i]?.map (·.sc) = some (rxCode s.params.sc (decide (i + 1 < len)))) ∧
          (k < len → got[k]?.map (·.sc) ≠ some (rxCode s.params.sc (decide (k + 1 < len)))) ∧
          (∀ i < got.length, i + 2 < s.answers.length → got[i]? = s.answers[i + 2]?) ∧
          (∀ i < got.length,
            got[i]? = some (nextAnswer (.rx (decide (i + 1 < len)))
              { opened with answers := opened.answers.drop i, draws := opened.draws + i,
                            history := opened.history ++
                              (got.take i).mapIdx (fun j a => .rx (decide (j + 1 < len)) a.data a.sc) })) ∧
          mid = .addr (slave ++ 1#1) c :: got.mapIdx (fun i a => .rx (decide (i + 1 < len)) a.data a.sc) ∧
          (readSeq slave len s).1 = some ((got.take k).map (·.data)))

/-! ### The bus commands -/

/-- R123: BUS_START. -/
def Obligations.BusStartSendsAStart : Prop :=
  encode .busStart = 0x10 ∧
  ∀ s : State,
    (s.phase = .held → exec .busStart s = .next { s with result := 0, err := .illegalSequence }) ∧
    (s.phase ≠ .held → ∀ sc : Byte, sc = (nextAnswer .start s).sc →
      exec .busStart s =
        .next { s with answers := s.answers.tail, draws := s.draws + 1, history := s.history ++ [.start sc], bsc := sc,
                       phase := if startOk s.params.sc sc then .started else .held,
                       result := if startOk s.params.sc sc then 1 else 0,
                       err := if startOk s.params.sc sc then .ok else .busFailure })

/-- R124: BUS_STOP, legal in every phase. -/
def Obligations.BusStopReleasesTheBus : Prop :=
  encode .busStop = 0x11 ∧
  ∀ s : State,
    (s.phase = .idle → exec .busStop s = .next { s with result := 1, err := .ok }) ∧
    (s.phase ≠ .idle →
      exec .busStop s = .next { s with history := s.history ++ [.stop], bsc := s.params.sc.noInfo, phase := .idle,
                                       result := 1, err := .ok })

/-- R125: BUS_ADDR. -/
def Obligations.BusAddrSendsTheAddressByte : Prop :=
  encode .busAddr = 0x12 ∧
  ∀ s : State,
    (0x7F < s.larg[0].toNat ∨ 1 < s.larg[1].toNat →
      exec .busAddr s = .next { s with result := 0, err := .illegalOperand }) ∧
    (s.larg[0].toNat ≤ 0x7F → s.larg[1].toNat ≤ 1 → s.phase ≠ .started →
      exec .busAddr s = .next { s with result := 0, err := .illegalSequence }) ∧
    (s.larg[0].toNat ≤ 0x7F → s.larg[1].toNat ≤ 1 → s.phase = .started →
      ∀ byte sc : Byte, byte = BitVec.ofNat 8 (2 * s.larg[0].toNat + s.larg[1].toNat) →
        sc = (nextAnswer (.addr byte) s).sc →
        exec .busAddr s =
          .next { s with
            answers := s.answers.tail, draws := s.draws + 1, history := s.history ++ [.addr byte sc], bsc := sc,
            phase := if s.larg[1] = 0 ∧ sc = s.params.sc.mtSlaAck then .masterTx
                     else if s.larg[1] = 1 ∧ sc = s.params.sc.mrSlaAck then .masterRx else .held,
            result := if s.larg[1] = 0 ∧ sc = s.params.sc.mtSlaAck ∨ s.larg[1] = 1 ∧ sc = s.params.sc.mrSlaAck then 1
                      else 0,
            err := if s.larg[1] = 0 ∧ sc = s.params.sc.mtSlaAck ∨ s.larg[1] = 1 ∧ sc = s.params.sc.mrSlaAck then .ok
                   else .busFailure })

/-- R126: BUS_SEND_BYTE. -/
def Obligations.BusSendByteSendsTheOperand : Prop :=
  encode .busSendByte = 0x13 ∧
  ∀ s : State,
    (0xFF < s.larg[0].toNat → exec .busSendByte s = .next { s with result := 0, err := .illegalOperand }) ∧
    (s.larg[0].toNat ≤ 0xFF → s.phase ≠ .masterTx →
      exec .busSendByte s = .next { s with result := 0, err := .illegalSequence }) ∧
    (s.larg[0].toNat ≤ 0xFF → s.phase = .masterTx → ∀ byte sc : Byte, byte = s.larg[0].setWidth 8 →
      sc = (nextAnswer (.tx byte) s).sc →
        exec .busSendByte s =
          .next { s with answers := s.answers.tail, draws := s.draws + 1, history := s.history ++ [.tx byte sc],
                         bsc := sc, phase := if sc = s.params.sc.mtDataAck then .masterTx else .held,
                         result := if sc = s.params.sc.mtDataAck then 1 else 0,
                         err := if sc = s.params.sc.mtDataAck then .ok else .busFailure })

/-- R127: BUS_SEND is one SendSeq of XBUF[0..n-1]; RESULT is its count, and a short one is a BUS_FAILURE. -/
def Obligations.BusSendSendsTheBuffer : Prop :=
  encode .busSend = 0x14 ∧
  ∀ (s : State) (n : Nat), n = s.larg[0].toNat →
    (32 < n → exec .busSend s = .next { s with result := 0, err := .illegalOperand }) ∧
    (n ≤ 32 → s.phase ≠ .masterTx → exec .busSend s = .next { s with result := 0, err := .illegalSequence }) ∧
    (n ≤ 32 → s.phase = .masterTx → (∃ i < n, s.xvalid[i]? = some false) →
      exec .busSend s = .fault .xbufUnwritten) ∧
    (n ≤ 32 → s.phase = .masterTx → (∀ i < n, s.xvalid[i]? = some true) →
      ∀ (k : Nat) (t : State), sendSeq (s.xbuf.toList.take n) s = (k, t) →
        exec .busSend s = .next { t with result := BitVec.ofNat 32 k, err := if k = n then .ok else .busFailure })

/-- R128: BUS_RECV is one RecvSeq into XBUF; RESULT is the count of bytes received, the other bytes of XBUF stay. -/
def Obligations.BusRecvFillsTheBuffer : Prop :=
  encode .busRecv = 0x15 ∧
  ∀ (s : State) (n : Nat), n = s.larg[0].toNat →
    (32 < n → exec .busRecv s = .next { s with result := 0, err := .illegalOperand }) ∧
    (n ≤ 32 → s.phase ≠ .masterRx → exec .busRecv s = .next { s with result := 0, err := .illegalSequence }) ∧
    (n ≤ 32 → s.phase = .masterRx →
      ∀ (got : List Byte) (t : State), recvSeq n s = (got, t) →
        ∃ (xbuf : Vector Byte 32) (xvalid : Vector Bool 32),
          (∀ i < got.length, xbuf[i]? = got[i]? ∧ xvalid[i]? = some true) ∧
          (∀ i, got.length ≤ i → xbuf[i]? = s.xbuf[i]? ∧ xvalid[i]? = s.xvalid[i]?) ∧
          exec .busRecv s =
            .next { t with xbuf := xbuf, xvalid := xvalid, result := BitVec.ofNat 32 got.length,
                           err := if got.length = n then .ok else .busFailure })

/-- R129: BUS_WRITE is one WriteSeq of XBUF[0..n-1]; RESULT is its count, and ERR is OK only for a whole transaction. -/
def Obligations.BusWriteRunsAWriteTransaction : Prop :=
  encode .busWrite = 0x16 ∧
  ∀ (s : State) (n : Nat) (slave : BitVec 7), n = s.larg[1].toNat → slave = s.larg[0].setWidth 7 →
    (0x7F < s.larg[0].toNat ∨ 32 < n → exec .busWrite s = .next { s with result := 0, err := .illegalOperand }) ∧
    (s.larg[0].toNat ≤ 0x7F → n ≤ 32 → s.phase ≠ .idle →
      exec .busWrite s = .next { s with result := 0, err := .illegalSequence }) ∧
    (s.larg[0].toNat ≤ 0x7F → n ≤ 32 → s.phase = .idle → (∃ i < n, s.xvalid[i]? = some false) →
      exec .busWrite s = .fault .xbufUnwritten) ∧
    (s.larg[0].toNat ≤ 0x7F → n ≤ 32 → s.phase = .idle → (∀ i < n, s.xvalid[i]? = some true) →
      ∀ (count : Option Nat) (t : State), writeSeq slave (s.xbuf.toList.take n) s = (count, t) →
        exec .busWrite s =
          .next { t with result := BitVec.ofNat 32 (count.getD 0),
                         err := if count = some n then .ok else .busFailure })

/-- R130: BUS_READ is one ReadSeq into XBUF; RESULT is the count of bytes received, the other bytes of XBUF stay. -/
def Obligations.BusReadRunsAReadTransaction : Prop :=
  encode .busRead = 0x17 ∧
  ∀ (s : State) (n : Nat) (slave : BitVec 7), n = s.larg[1].toNat → slave = s.larg[0].setWidth 7 →
    (0x7F < s.larg[0].toNat ∨ 32 < n → exec .busRead s = .next { s with result := 0, err := .illegalOperand }) ∧
    (s.larg[0].toNat ≤ 0x7F → n ≤ 32 → s.phase ≠ .idle →
      exec .busRead s = .next { s with result := 0, err := .illegalSequence }) ∧
    (s.larg[0].toNat ≤ 0x7F → n ≤ 32 → s.phase = .idle →
      ∀ (got : Option (List Byte)) (t : State), readSeq slave n s = (got, t) →
        ∃ (xbuf : Vector Byte 32) (xvalid : Vector Bool 32),
          (∀ i < (got.getD []).length, xbuf[i]? = (got.getD [])[i]? ∧ xvalid[i]? = some true) ∧
          (∀ i, (got.getD []).length ≤ i → xbuf[i]? = s.xbuf[i]? ∧ xvalid[i]? = s.xvalid[i]?) ∧
          exec .busRead s =
            .next { t with xbuf := xbuf, xvalid := xvalid, result := BitVec.ofNat 32 (got.getD []).length,
                           err := if got.map List.length = some n then .ok else .busFailure })

/-! ### The register-file engine -/

/-- R151, R152: a refresh is one 32-byte read of the tuner. With all 32 bytes, register (10 + k) mod 16 takes bytes 2k and
2k + 1, high byte first, and every register is marked written; otherwise the shadow file and its marks are unchanged. -/
def Obligations.RefreshDeinterleavesTheBurst : Prop :=
  ∀ (s : State) (got : Option (List Byte)) (t : State), readSeq s.params.tunerAddr 32 s = (got, t) →
    ((got.getD []).length = 32 →
      ∃ (shadow : Vector Half 16) (stg : Vector Byte 32),
        refresh s = (true, { t with stg := stg, shadow := shadow, valid := .replicate 16 true }) ∧
        (∀ i < 32, stg[i]? = (got.getD [])[i]?) ∧
        ∀ k < 16, ∀ h l : Byte, (got.getD [])[2 * k]? = some h → (got.getD [])[2 * k + 1]? = some l →
          shadow[(10 + k) % 16]? = some (h ++ l)) ∧
    ((got.getD []).length ≠ 32 →
      ∃ stg : Vector Byte 32, refresh s = (false, { t with stg := stg }) ∧
        (∀ i < (got.getD []).length, stg[i]? = (got.getD [])[i]?) ∧
        ∀ i, (got.getD []).length ≤ i → stg[i]? = s.stg[i]?)

/-- R151, R152, R122: a tuner that answers all 32 bytes fills the shadow file, registers 10 to 15 first and then 0 to 9, and
the history shows one read transaction with ACK on every byte but the last. -/
def Obligations.AnsweredRefreshFillsTheShadow : Prop :=
  ∀ (s : State) (a b : BusAnswer) (bytes : List Byte) (rest : List BusAnswer),
    startOk s.params.sc a.sc = true → b.sc = s.params.sc.mrSlaAck → bytes.length = 32 →
    s.answers = a :: b :: bytes.mapIdx (fun i x => ⟨rxCode s.params.sc (decide (i < 31)), x⟩) ++ rest →
      (refresh s).1 = true ∧
      (refresh s).2.answers = rest ∧
      (refresh s).2.history =
        s.history ++ .start a.sc :: .addr (s.params.tunerAddr ++ 1#1) b.sc ::
          bytes.mapIdx (fun i x => .rx (decide (i < 31)) x (rxCode s.params.sc (decide (i < 31)))) ++ [.stop] ∧
      ∀ k < 16, (refresh s).2.shadow[(10 + k) % 16]? =
        some ((bytes[2 * k]?.getD 0) ++ (bytes[2 * k + 1]?.getD 0)) ∧ (refresh s).2.valid[k]? = some true

/-- R153: a commit faults if one of registers 2 to 7 was never written; otherwise it is one write of their 12 bytes, high
byte first, whichever of them changed, and the shadow file stays as it is. -/
def Obligations.CommitSendsRegistersTwoToSeven : Prop :=
  ∀ s : State,
    ((∃ i, 2 ≤ i ∧ i ≤ 7 ∧ s.valid[i]? = some false) → commit s = .error .shadowUnwritten) ∧
    ((∀ i, 2 ≤ i → i ≤ 7 → s.valid[i]? = some true) →
      ∀ bytes : List Byte,
        bytes = [s.shadow[2].extractLsb' 8 8, s.shadow[2].extractLsb' 0 8, s.shadow[3].extractLsb' 8 8,
                 s.shadow[3].extractLsb' 0 8, s.shadow[4].extractLsb' 8 8, s.shadow[4].extractLsb' 0 8,
                 s.shadow[5].extractLsb' 8 8, s.shadow[5].extractLsb' 0 8, s.shadow[6].extractLsb' 8 8,
                 s.shadow[6].extractLsb' 0 8, s.shadow[7].extractLsb' 8 8, s.shadow[7].extractLsb' 0 8] →
        ∃ stg : Vector Byte 32, (∀ i < 12, stg[i]? = bytes[i]?) ∧ (∀ i, 12 ≤ i → stg[i]? = s.stg[i]?) ∧
          ∀ (count : Option Nat) (t : State), writeSeq s.params.tunerAddr bytes { s with stg := stg } = (count, t) →
            commit s = .ok (decide (count = some 12), t) ∧ t.shadow = s.shadow ∧ t.valid = s.valid)

/-- R154, R156: RF_REFRESH and RF_COMMIT. -/
def Obligations.RfRefreshAndRfCommitReport : Prop :=
  encode .rfRefresh = 0x20 ∧ encode .rfCommit = 0x21 ∧
  ∀ s : State,
    (s.phase ≠ .idle → exec .rfRefresh s = .next { s with result := 0, err := .illegalSequence } ∧
      exec .rfCommit s = .next { s with result := 0, err := .illegalSequence }) ∧
    (s.phase = .idle → ∀ (ok : Bool) (t : State), refresh s = (ok, t) →
      exec .rfRefresh s = .next { t with result := if ok then 1 else 0, err := if ok then .ok else .busFailure } ∧
      t.xbuf = s.xbuf ∧ t.xvalid = s.xvalid ∧ t.phase = .idle ∧ (ok = false → t.shadow = s.shadow ∧ t.valid = s.valid)) ∧
    (s.phase = .idle → (∃ i, 2 ≤ i ∧ i ≤ 7 ∧ s.valid[i]? = some false) →
      exec .rfCommit s = .fault .shadowUnwritten) ∧
    (s.phase = .idle → (∀ i, 2 ≤ i → i ≤ 7 → s.valid[i]? = some true) →
      ∃ (ok : Bool) (t : State), commit s = .ok (ok, t) ∧
        exec .rfCommit s = .next { t with result := if ok then 1 else 0, err := if ok then .ok else .busFailure })

/-- R155: RF_SET, legal in every phase, with no bus event. -/
def Obligations.RfSetWritesOneConfigurationRegister : Prop :=
  encode .rfSet = 0x22 ∧
  ∀ s : State,
    (s.larg[0].toNat < 2 ∨ 7 < s.larg[0].toNat ∨ 0xFFFF < s.larg[1].toNat →
      exec .rfSet s = .next { s with result := 0, err := .illegalOperand }) ∧
    (∀ i : Fin 16, s.larg[0].toNat = i.val → 2 ≤ i.val → i.val ≤ 7 → s.larg[1].toNat ≤ 0xFFFF →
      exec .rfSet s = .next { s with shadow := s.shadow.set i (s.larg[1].setWidth 16), valid := s.valid.set i true,
                                     result := 1, err := .ok })

/-! ### Tuning -/

/-- R34: an update of one bit, or of the channel field, changes that bit or field and carries every other bit unchanged. -/
def Obligations.FieldUpdatesCarryOtherBits : Prop :=
  (∀ (v : Half) (i j : Nat) (b : Bool), i < 16 → j < 16 →
    (setBit v i b).getLsbD j = if j = i then b else v.getLsbD j) ∧
  (∀ (v : Half) (place j : Nat) (c : BitVec 10), place + 10 ≤ 16 → j < 16 →
    (setChannel v place c).getLsbD j = if place ≤ j ∧ j < place + 10 then c.getLsbD (j - place) else v.getLsbD j)

/-- R5, R34, R118, R171, R196, R197: the parameters after reset are the spec's defaults, and well formed, with the success
sets of the status codes; the OPEN ones are free values (log entry 3). -/
def Obligations.ParametersAfterReset : Prop :=
  ∀ p : Params, p = State.reset.params →
    p.tunerAddr = 0x10 ∧
    p.sc =
      { start := 0x08, repStart := 0x10, mtSlaAck := 0x18, mtSlaNack := 0x20, mtDataAck := 0x28, mtDataNack := 0x30,
        arbLost := 0x38, mrSlaAck := 0x40, mrSlaNack := 0x48, mrDataAck := 0x50, mrDataNack := 0x58, noInfo := 0xF8,
        busError := 0x00 } ∧
    (∀ sc : Byte, startOk p.sc sc = true ↔ sc = 0x08 ∨ sc = 0x10) ∧
    slaAck p.sc false = 0x18 ∧ slaAck p.sc true = 0x40 ∧ rxCode p.sc true = 0x50 ∧ rxCode p.sc false = 0x58 ∧
    p.fields =
      { dsmute := 15, mono := 13, tune := 15, chan := 0, band := 6, space := 4, rdsr := 15, stc := 14, st := 8, rssi := 0,
        readchan := 0 } ∧
    p.bandMin = ⟨8750, 7600, 7600, 7600⟩ ∧ p.bandMax = ⟨10800, 10800, 10800, 10800⟩ ∧ p.spacing = ⟨20, 10, 5⟩ ∧
    p.pwrMask = 0x0041 ∧ p.pwrSleep = 0x0041 ∧ p.pwrWake = 0x0001 ∧ wellFormedParams p = true

/-- R171: the band and spacing codes are fields of register 5, and select a minimum, a maximum and a spacing from the
tables; spacing code 3 selects none. R6, R172, R173: the channel of a frequency. Below the band it is 0, above it is the
channel of the maximum, and inside the band the channel's own frequency r has r ≤ f < r + spacing; with the default tables
no channel exceeds 640. -/
def Obligations.ChannelOfAFrequency : Prop :=
  (∀ t : PerBand, perBand t 0 = t.b0 ∧ perBand t 1 = t.b1 ∧ perBand t 2 = t.b2 ∧ perBand t 3 = t.b3) ∧
  (∀ s : State,
    bandCode s = s.shadow[5].extractLsb' s.params.fields.band 2 ∧
    spaceCode s = s.shadow[5].extractLsb' s.params.fields.space 2 ∧
    bandMinimum s = perBand s.params.bandMin (bandCode s) ∧
    bandMaximum s = perBand s.params.bandMax (bandCode s) ∧
    (spaceCode s = 0 → channelSpacing s = some s.params.spacing.s0) ∧
    (spaceCode s = 1 → channelSpacing s = some s.params.spacing.s1) ∧
    (spaceCode s = 2 → channelSpacing s = some s.params.spacing.s2) ∧
    (spaceCode s = 3 → channelSpacing s = none)) ∧
  (∀ (low high sp : Nat) (f : Int), low ≤ high → 1 ≤ sp →
    (f < low → channelOf low high sp f = 0) ∧
    ((high : Int) < f → channelOf low high sp f = (high - low) / sp) ∧
    ((low : Int) ≤ f → f ≤ high →
      (frequencyOf (channelOf low high sp f) sp low : Int) ≤ f ∧
      f < frequencyOf (channelOf low high sp f) sp low + sp)) ∧
  (∀ (s : State) (sp : Nat) (f : Int), s.params.bandMin = State.reset.params.bandMin →
    s.params.bandMax = State.reset.params.bandMax → s.params.spacing = State.reset.params.spacing →
    channelSpacing s = some sp → channelOf (bandMinimum s) (bandMaximum s) sp f ≤ 640)

/-- R175: TUNE_SET_FREQ, its setup step: the checks in order, then a refresh, the channel and the tune request in
SHADOW[3], a commit, and the sequencer starts polling; RESULT and ERR then keep their values. -/
def Obligations.TuneSetFreqRequestsAChannel : Prop :=
  encode .tuneSetFreq = 0x31 ∧
  ∀ s : State,
    (s.phase ≠ .idle → exec .tuneSetFreq s = .next { s with result := 0, err := .illegalSequence }) ∧
    (s.phase = .idle → s.valid[5] = false → exec .tuneSetFreq s = .fault .shadowUnwritten) ∧
    (s.phase = .idle → s.valid[5] = true → spaceCode s = 3 →
      exec .tuneSetFreq s = .next { s with result := 0, err := .illegalConfig }) ∧
    (∀ sp chan : Nat, s.phase = .idle → s.valid[5] = true → channelSpacing s = some sp →
      chan = channelOf (bandMinimum s) (bandMaximum s) sp s.larg[0].toInt →
      (1023 < chan → exec .tuneSetFreq s = .fault .channelRange) ∧
      (chan ≤ 1023 → ∀ t : State, refresh s = (false, t) →
        exec .tuneSetFreq s = .next { t with result := 0, err := .busFailure }) ∧
      (chan ≤ 1023 → ∀ (t : State) (v : Half), refresh s = (true, t) →
        v = setBit (setChannel t.shadow[3] s.params.fields.chan (BitVec.ofNat 10 chan)) s.params.fields.tune true →
        ∃ (ok : Bool) (u : State),
          commit { t with shadow := t.shadow.set 3 v } = .ok (ok, u) ∧
          exec .tuneSetFreq s =
            .next (if ok then { u with polls := 0, seq := .tuning }
                   else { u with result := 0, err := .busFailure })))

/-- R174, R177, R178, R179: one poll of a tune in progress. Not complete: the poll is counted, and the tune goes on, or ends
with TUNE_TIMEOUT when the count reaches MAX_TUNE_POLLS. Complete: the tune request is cleared and committed, the decoder
is reset and the detector is not, and the command ends with that commit's outcome. -/
def Obligations.PollOfATuneInProgress : Prop :=
  ∀ (s t : State) (ok : Bool), s.seq = .tuning → nextTurn s = .controller →
    refresh { s with schedule := s.schedule.tail } = (ok, t) →
    ((ok = false ∨ t.shadow[10].getLsbD s.params.fields.stc = false) →
      (∀ n, s.params.maxTunePolls = some n → s.polls + 1 < n) → step s = .next { t with polls := s.polls + 1 }) ∧
    ((ok = false ∨ t.shadow[10].getLsbD s.params.fields.stc = false) →
      ∀ n, s.params.maxTunePolls = some n → n ≤ s.polls + 1 → s.valid = .replicate 16 true →
        ∃ (c : Bool) (u : State),
          commit { t with polls := s.polls + 1,
                          shadow := t.shadow.set 3 (setBit t.shadow[3] s.params.fields.tune false) } = .ok (c, u) ∧
          step s = .next { u with seq := .idle, result := 0, err := .tuneTimeout }) ∧
    (ok = true → t.shadow[10].getLsbD s.params.fields.stc = true →
      ∃ (c : Bool) (u : State),
        commit { t with shadow := t.shadow.set 3 (setBit t.shadow[3] s.params.fields.tune false) } = .ok (c, u) ∧
        step s =
          .next { u with pty := -1, ps := .replicate 8 0, rt := .replicate 64 0, wip := .replicate 64 0, textAB := false,
                         seq := .idle, result := if c then 1 else 0, err := if c then .ok else .busFailure })

/-- R288: with MAX_TUNE_POLLS = INF, a tune whose every poll fails at the start condition is still in progress after n
steps, for every n: the controller hangs, as the rule has it. -/
def Obligations.UnansweredTuneNeverEnds : Prop :=
  ∀ (n : Nat) (s : State) (a : BusAnswer) (rest : List BusAnswer),
    s.seq = .tuning → s.schedule = [] → s.params.maxTunePolls = none → startOk s.params.sc a.sc = false →
    s.answers = List.replicate n a ++ rest →
      ∃ t : State, Sys2Proof.core.run n s = .next t ∧ t.seq = .tuning ∧ busy t = true ∧ t.polls = s.polls + n ∧
        t.answers = rest ∧ t.history = s.history ++ (List.replicate n [.start a.sc, .stop]).flatten ∧
        t.result = s.result ∧ t.err = s.err

/-- R180: TUNE_GET_FREQ, from the freshly read channel, band and spacing. -/
def Obligations.TuneGetFreqReportsTheChipsChannel : Prop :=
  encode .tuneGetFreq = 0x32 ∧
  ∀ s : State,
    (s.phase ≠ .idle → exec .tuneGetFreq s = .next { s with result := 0, err := .illegalSequence }) ∧
    (s.phase = .idle → ∀ t : State,
      (refresh s = (false, t) → exec .tuneGetFreq s = .next { t with result := 0, err := .busFailure }) ∧
      (refresh s = (true, t) → spaceCode t = 3 →
        exec .tuneGetFreq s = .next { t with result := 0, err := .illegalConfig }) ∧
      (∀ sp, refresh s = (true, t) → channelSpacing t = some sp →
        exec .tuneGetFreq s =
          .next { t with
            result := BitVec.ofNat 32 ((t.shadow[11].extractLsb' s.params.fields.readchan 10).toNat * sp + bandMinimum t),
            err := .ok }))

/-- R181: TUNE_IS_READY. -/
def Obligations.TuneIsReadyClearsTheRequest : Prop :=
  encode .tuneIsReady = 0x33 ∧
  ∀ s : State,
    (s.phase ≠ .idle → exec .tuneIsReady s = .next { s with result := 0, err := .illegalSequence }) ∧
    (s.phase = .idle → ∀ t : State,
      (refresh s = (false, t) → exec .tuneIsReady s = .next { t with result := 0, err := .busFailure }) ∧
      (refresh s = (true, t) → t.shadow[10].getLsbD s.params.fields.stc = false →
        exec .tuneIsReady s = .next { t with result := 0, err := .ok }) ∧
      (refresh s = (true, t) → t.shadow[10].getLsbD s.params.fields.stc = true →
        ∃ (c : Bool) (u : State),
          commit { t with shadow := t.shadow.set 3 (setBit t.shadow[3] s.params.fields.tune false) } = .ok (c, u) ∧
          exec .tuneIsReady s = .next { u with result := 1, err := if c then .ok else .busFailure }))

/-- R182, R183: TUNE_GET_MIN and TUNE_GET_MAX, legal in every phase, with no bus event. -/
def Obligations.BandLimitsComeFromTheShadow : Prop :=
  encode .tuneGetMin = 0x35 ∧ encode .tuneGetMax = 0x36 ∧
  ∀ s : State,
    (s.valid[5] = false → exec .tuneGetMin s = .fault .shadowUnwritten ∧
      exec .tuneGetMax s = .fault .shadowUnwritten) ∧
    (s.valid[5] = true → ∀ band : BitVec 2, band = s.shadow[5].extractLsb' s.params.fields.band 2 →
      exec .tuneGetMin s = .next { s with result := BitVec.ofNat 32 (perBand s.params.bandMin band), err := .ok } ∧
      exec .tuneGetMax s = .next { s with result := BitVec.ofNat 32 (perBand s.params.bandMax band), err := .ok })

/-- R184: TUNER_IS_CONNECTED; a mismatch is RESULT 0 with ERR OK. -/
def Obligations.IsConnectedComparesTheIdentifiers : Prop :=
  encode .tunerIsConnected = 0x34 ∧
  ∀ s : State,
    (s.phase ≠ .idle → exec .tunerIsConnected s = .next { s with result := 0, err := .illegalSequence }) ∧
    (s.phase = .idle → ∀ t : State,
      (refresh s = (false, t) → exec .tunerIsConnected s = .next { t with result := 0, err := .busFailure }) ∧
      (refresh s = (true, t) →
        exec .tunerIsConnected s =
          .next { t with
            result := if t.shadow[0] &&& s.params.id0Mask = s.params.id0Expect ∧
                         t.shadow[1] &&& s.params.id1Mask = s.params.id1Expect then 1 else 0,
            err := .ok }))

/-- R190: TUNER_INIT resets the detector and the decoder, then refreshes; they are reset even if the refresh fails. -/
def Obligations.TunerInitResetsAndRefreshes : Prop :=
  encode .tunerInit = 0x30 ∧
  ∀ s : State,
    (s.phase ≠ .idle → exec .tunerInit s = .next { s with result := 0, err := .illegalSequence }) ∧
    (s.phase = .idle → ∀ (ok : Bool) (t : State),
      refresh { s with readyEdge := .idle, pty := -1, ps := .replicate 8 0, rt := .replicate 64 0,
                       wip := .replicate 64 0, textAB := false } = (ok, t) →
      exec .tunerInit s = .next { t with result := if ok then 1 else 0, err := if ok then .ok else .busFailure } ∧
      t.readyEdge = .idle ∧ t.pty = -1 ∧ t.ps = .replicate 8 0 ∧ t.rt = .replicate 64 0 ∧ t.wip = .replicate 64 0 ∧
      t.textAB = false ∧ (ok = true → t.valid = .replicate 16 true))

/-- R191, R192, R193: the status queries report a field of the freshly read register 10; a failed refresh reports 0. -/
def Obligations.StatusQueriesReadRegisterTen : Prop :=
  encode .tunerIsTuned = 0x37 ∧ encode .tunerIsStereo = 0x38 ∧ encode .tunerGetRssi = 0x39 ∧
  ∀ s : State,
    (s.phase ≠ .idle → ∀ i ∈ [Instr.tunerIsTuned, .tunerIsStereo, .tunerGetRssi],
      exec i s = .next { s with result := 0, err := .illegalSequence }) ∧
    (s.phase = .idle → ∀ t : State,
      (refresh s = (false, t) → ∀ i ∈ [Instr.tunerIsTuned, .tunerIsStereo, .tunerGetRssi],
        exec i s = .next { t with result := 0, err := .busFailure }) ∧
      (refresh s = (true, t) →
        exec .tunerIsTuned s =
          .next { t with result := if t.shadow[10].getLsbD s.params.fields.stc then 1 else 0, err := .ok } ∧
        exec .tunerIsStereo s =
          .next { t with result := if t.shadow[10].getLsbD s.params.fields.st then 1 else 0, err := .ok } ∧
        exec .tunerGetRssi s =
          .next { t with result := (t.shadow[10].extractLsb' s.params.fields.rssi 8).setWidth 32, err := .ok }))

/-- R194, R195: TUNER_SET_MONO and TUNER_SET_SOFTMUTE set one bit of the freshly read register 2 and commit it; soft mute is
DSMUTE = 0. -/
def Obligations.MonoAndSoftmuteCommitOneBit : Prop :=
  encode .tunerSetMono = 0x3A ∧ encode .tunerSetSoftmute = 0x3B ∧
  ∀ s : State, ∀ i ∈ [Instr.tunerSetMono, .tunerSetSoftmute],
    (1 < s.larg[0].toNat → exec i s = .next { s with result := 0, err := .illegalOperand }) ∧
    (s.larg[0].toNat ≤ 1 → s.phase ≠ .idle → exec i s = .next { s with result := 0, err := .illegalSequence }) ∧
    (s.larg[0].toNat ≤ 1 → s.phase = .idle → ∀ t : State,
      (refresh s = (false, t) → exec i s = .next { t with result := 0, err := .busFailure }) ∧
      (refresh s = (true, t) → ∀ v : Half,
        v = (if i = .tunerSetMono then setBit t.shadow[2] s.params.fields.mono (decide (s.larg[0] = 1))
             else setBit t.shadow[2] s.params.fields.dsmute (decide (s.larg[0] = 0))) →
        ∃ (c : Bool) (u : State), commit { t with shadow := t.shadow.set 2 v } = .ok (c, u) ∧
          exec i s = .next { u with result := if c then 1 else 0, err := if c then .ok else .busFailure }))

/-- R196, R197: TUNER_SLEEP and TUNER_WAKEUP change the power bits of the freshly read register 2 and commit; only a
successful wake-up resets the decoder, and neither changes the detector. -/
def Obligations.SleepAndWakeupCommitThePowerBits : Prop :=
  encode .tunerSleep = 0x3C ∧ encode .tunerWakeup = 0x3D ∧
  ∀ s : State,
    (s.phase ≠ .idle → ∀ i ∈ [Instr.tunerSleep, .tunerWakeup],
      exec i s = .next { s with result := 0, err := .illegalSequence }) ∧
    (s.phase = .idle → ∀ t : State,
      (refresh s = (false, t) → ∀ i ∈ [Instr.tunerSleep, .tunerWakeup],
        exec i s = .next { t with result := 0, err := .busFailure }) ∧
      (refresh s = (true, t) →
        (∃ (c : Bool) (u : State),
          commit { t with shadow := t.shadow.set 2 ((t.shadow[2] &&& ~~~s.params.pwrMask) ||| s.params.pwrSleep) } =
            .ok (c, u) ∧
          exec .tunerSleep s =
            .next { u with result := if c then 1 else 0, err := if c then .ok else .busFailure }) ∧
        (∃ (c : Bool) (u : State),
          commit { t with shadow := t.shadow.set 2 ((t.shadow[2] &&& ~~~s.params.pwrMask) ||| s.params.pwrWake) } =
            .ok (c, u) ∧
          exec .tunerWakeup s =
            .next (if c then
                { u with pty := -1, ps := .replicate 8 0, rt := .replicate 64 0, wip := .replicate 64 0, textAB := false,
                         result := 1, err := .ok }
              else { u with result := 0, err := .busFailure }))))

/-- R198, R199: the seeks are no-ops, legal in every phase. -/
def Obligations.SeeksAreNoOps : Prop :=
  encode .tuneSeekUp = 0x3E ∧ encode .tuneSeekDown = 0x3F ∧
  ∀ s : State,
    exec .tuneSeekUp s = .next { s with result := 0, err := .ok } ∧
    exec .tuneSeekDown s = .next { s with result := 0, err := .ok }

/-! ### The RDS decoder and the ready-edge detector -/

/-- R220, R221: RDS_POLL: after a refresh, the detector's four transitions, with one decode of the fresh blocks on the rise
of the data-ready bit and none otherwise; a failed refresh changes neither detector nor decoder nor shadow file. -/
def Obligations.RdsPollDecodesOnARise : Prop :=
  encode .rdsPoll = 0x40 ∧
  ∀ s : State,
    (s.phase ≠ .idle → exec .rdsPoll s = .next { s with result := 0, err := .illegalSequence }) ∧
    (s.phase = .idle → ∀ (t : State),
      (refresh s = (false, t) → exec .rdsPoll s = .next { t with result := 0, err := .busFailure } ∧
        t.readyEdge = s.readyEdge ∧ t.ps = s.ps ∧ t.rt = s.rt ∧ t.wip = s.wip ∧ t.textAB = s.textAB ∧ t.pty = s.pty ∧
        t.shadow = s.shadow ∧ t.valid = s.valid) ∧
      (refresh s = (true, t) → s.readyEdge = .idle → t.shadow[10].getLsbD s.params.fields.rdsr = true →
        ∀ (handled : Bool) (u : State),
          decodeGroup t.shadow[12] t.shadow[13] t.shadow[14] t.shadow[15] { t with readyEdge := .armedForFall } =
            (handled, u) →
          exec .rdsPoll s = .next { u with result := 1, err := .ok }) ∧
      (refresh s = (true, t) → s.readyEdge = .idle → t.shadow[10].getLsbD s.params.fields.rdsr = false →
        exec .rdsPoll s = .next { t with result := 0, err := .ok }) ∧
      (refresh s = (true, t) → s.readyEdge = .armedForFall → t.shadow[10].getLsbD s.params.fields.rdsr = false →
        exec .rdsPoll s = .next { t with readyEdge := .idle, result := 0, err := .ok }) ∧
      (refresh s = (true, t) → s.readyEdge = .armedForFall → t.shadow[10].getLsbD s.params.fields.rdsr = true →
        exec .rdsPoll s = .next { t with result := 0, err := .ok }))

/-- R219, R222: RDS_DECODE, legal in every phase, decodes the four latched blocks; a group code other than 0, 1, 4 and 5 is a
no-op. -/
def Obligations.RdsDecodeDecodesTheOperands : Prop :=
  encode .rdsDecode = 0x41 ∧
  (∀ s : State,
    ((∃ k : Fin 4, 0xFFFF < s.larg[k].toNat) → exec .rdsDecode s = .next { s with result := 0, err := .illegalOperand }) ∧
    ((∀ k : Fin 4, s.larg[k].toNat ≤ 0xFFFF) →
      ∀ (handled : Bool) (t : State),
        decodeGroup (s.larg[0].setWidth 16) (s.larg[1].setWidth 16) (s.larg[2].setWidth 16) (s.larg[3].setWidth 16) s =
          (handled, t) →
        exec .rdsDecode s = .next { t with result := if handled then 1 else 0, err := .ok })) ∧
  (∀ (a b c d : Half) (s : State),
    b.extractLsb' 11 5 ≠ 0 → b.extractLsb' 11 5 ≠ 1 → b.extractLsb' 11 5 ≠ 4 → b.extractLsb' 11 5 ≠ 5 →
      decodeGroup a b c d s = (false, s))

/-- R212, R214, R215: a group of code 0 or 1 sets the program type and two characters of the station name, untranslated;
nothing else changes. -/
def Obligations.GroupZeroSetsNameAndType : Prop :=
  ∀ (a b c d : Half) (s : State), b.extractLsb' 11 5 = 0 ∨ b.extractLsb' 11 5 = 1 →
    ∃ ps : Vector Byte 8,
      decodeGroup a b c d s = (true, { s with pty := BitVec.ofNat 6 (b.extractLsb' 5 5).toNat, ps := ps }) ∧
      ∀ i < 8, ps[i]? =
        if i = 2 * (b.extractLsb' 0 2).toNat then some (d.extractLsb' 8 8)
        else if i = 2 * (b.extractLsb' 0 2).toNat + 1 then some (d.extractLsb' 0 8) else s.ps[i]?

/-- R212, R213, R216, R217: a group of code 4 publishes and clears the text in progress if the flag changed, then writes four
characters at segment × 4, carriage returns as 0; nothing else changes. -/
def Obligations.GroupTwoAWritesFourCharacters : Prop :=
  ∀ (a b c d : Half) (s : State), b.extractLsb' 11 5 = 4 →
    ∃ wip : Vector Byte 64,
      decodeGroup a b c d s =
        (true, { s with rt := if b.getLsbD 4 = s.textAB then s.rt else s.wip, wip := wip, textAB := b.getLsbD 4 }) ∧
      ∀ i < 64, wip[i]? =
        if i = 4 * (b.extractLsb' 0 4).toNat then some (if c.extractLsb' 8 8 = 0x0D then 0 else c.extractLsb' 8 8)
        else if i = 4 * (b.extractLsb' 0 4).toNat + 1 then
          some (if c.extractLsb' 0 8 = 0x0D then 0 else c.extractLsb' 0 8)
        else if i = 4 * (b.extractLsb' 0 4).toNat + 2 then
          some (if d.extractLsb' 8 8 = 0x0D then 0 else d.extractLsb' 8 8)
        else if i = 4 * (b.extractLsb' 0 4).toNat + 3 then
          some (if d.extractLsb' 0 8 = 0x0D then 0 else d.extractLsb' 0 8)
        else if b.getLsbD 4 = s.textAB then s.wip[i]? else some 0

/-- R212, R213, R216, R218: a group of code 5 handles the flag in the same way and writes the two characters of block D at
segment × 2; nothing else changes. -/
def Obligations.GroupTwoBWritesTwoCharacters : Prop :=
  ∀ (a b c d : Half) (s : State), b.extractLsb' 11 5 = 5 →
    ∃ wip : Vector Byte 64,
      decodeGroup a b c d s =
        (true, { s with rt := if b.getLsbD 4 = s.textAB then s.rt else s.wip, wip := wip, textAB := b.getLsbD 4 }) ∧
      ∀ i < 64, wip[i]? =
        if i = 2 * (b.extractLsb' 0 4).toNat then some (if d.extractLsb' 8 8 = 0x0D then 0 else d.extractLsb' 8 8)
        else if i = 2 * (b.extractLsb' 0 4).toNat + 1 then
          some (if d.extractLsb' 0 8 = 0x0D then 0 else d.extractLsb' 0 8)
        else if b.getLsbD 4 = s.textAB then s.wip[i]? else some 0

/-- R211, R223: RDS_RESET blanks the decoder, in every phase; RE_STATE is unchanged. -/
def Obligations.RdsResetBlanksTheDecoder : Prop :=
  encode .rdsReset = 0x42 ∧
  ∀ s : State,
    exec .rdsReset s =
      .next { s with pty := -1, ps := .replicate 8 0, rt := .replicate 64 0, wip := .replicate 64 0, textAB := false,
                     result := 1, err := .ok }

/-! ### Reset -/

/-- R44, R270: the values the spec gives for reset. (What SHADOW, XBUF and STG hold is unspecified, and no part of this.) -/
def Obligations.ResetValues : Prop :=
  State.reset.arg = .replicate 4 0 ∧ State.reset.result = 0 ∧ State.reset.pending = none ∧
  State.reset.larg = .replicate 4 0 ∧ State.reset.seq = .idle ∧ State.reset.polls = 0 ∧ State.reset.bsc = 0xF8 ∧
  busy State.reset = false ∧ State.reset.drop = false ∧ State.reset.err = .ok ∧ State.reset.phase = .idle ∧
  State.reset.valid = .replicate 16 false ∧ State.reset.xvalid = .replicate 32 false ∧
  State.reset.ps = .replicate 8 0 ∧ State.reset.rt = .replicate 64 0 ∧ State.reset.wip = .replicate 64 0 ∧
  State.reset.textAB = false ∧ State.reset.pty = -1 ∧ State.reset.readyEdge = .idle ∧ State.reset.history = []

/-- R270, R271: a power-on reset at its turn. Every piece of the controller's state takes its reset value: the spec's, but
for the contents of SHADOW, XBUF and STG, which R44 leaves unspecified and the model holds at 0 (log entry 1). The history is
emptied if nothing was in progress; otherwise it keeps what was sent, up to n events of the controller's current step
(log entry 6: how R44 and R271 are read together); a step that would stop with a model fault has sent none. BSC becomes the
status-code table's no-information code, 0xF8 by default (log entry 10). -/
def Obligations.PowerOnResetAbandonsTheCommand : Prop :=
  ∀ (s : State) (n : Nat), nextTurn s = .powerOnReset n →
    (busy s = false →
      step s = .next { State.reset with bsc := s.params.sc.noInfo, params := s.params, answers := s.answers,
                                        draws := s.draws, schedule := s.schedule.tail, hostReads := s.hostReads }) ∧
    (busy s = true → ∀ (t : State) (sent : List BusEvent),
      controllerStep { s with schedule := s.schedule.tail } = .next t → t.history = s.history ++ sent →
        ∀ k, k = ((sent.take n).filter (fun e => decide (e ≠ .stop))).length →
          step s =
            .next { State.reset with
              bsc := s.params.sc.noInfo, history := s.history ++ sent.take n, params := s.params,
              answers := s.answers.drop k, draws := s.draws + k, schedule := s.schedule.tail, hostReads := s.hostReads }) ∧
    (busy s = true → ∀ x : Fault, controllerStep { s with schedule := s.schedule.tail } = .fault x →
      step s =
        .next { State.reset with
          bsc := s.params.sc.noInfo, history := s.history, params := s.params, answers := s.answers, draws := s.draws,
          schedule := s.schedule.tail, hostReads := s.hostReads })

/-! ### The whole machine -/

/-- R21, R28, R30, R31, R35, R36, R40, R41: what a command may write, over all commands. SHADOW and its marks change only in
a command that refreshes, which leaves every register marked then, or in RF_SET, which writes the one register it names; a
register outside 2 to 7 changes only in a command that refreshes. A command that runs a whole transaction leaves the bus idle, and
one that uses no bus touches neither PHASE nor the history. -/
def Obligations.CommandsWriteOnlyTheirOwnState : Prop :=
  ∀ (i : Instr) (s t : State) (refreshing : List Instr),
    refreshing = [.rfRefresh, .tunerInit, .tuneSetFreq, .tuneGetFreq, .tuneIsReady, .tunerIsConnected, .tunerIsTuned,
      .tunerIsStereo, .tunerGetRssi, .tunerSetMono, .tunerSetSoftmute, .tunerSleep, .tunerWakeup, .rdsPoll] →
    exec i s = .next t →
    t.arg = s.arg ∧ t.larg = s.larg ∧ t.pending = s.pending ∧ t.drop = s.drop ∧
    t.params = s.params ∧ t.schedule = s.schedule ∧ t.hostReads = s.hostReads ∧
    (t.xbuf ≠ s.xbuf ∨ t.xvalid ≠ s.xvalid → i ∈ [.busRecv, .busRead]) ∧
    (t.readyEdge ≠ s.readyEdge → i ∈ [.rdsPoll, .tunerInit]) ∧
    (t.textAB ≠ s.textAB ∨ t.rt ≠ s.rt ∨ t.wip ≠ s.wip ∨ t.ps ≠ s.ps ∨ t.pty ≠ s.pty →
      i ∈ [.rdsPoll, .rdsDecode, .rdsReset, .tunerInit, .tunerWakeup]) ∧
    (t.seq ≠ s.seq ∨ t.polls ≠ s.polls → i = .tuneSetFreq) ∧
    (t.shadow ≠ s.shadow ∨ t.valid ≠ s.valid →
      i = .rfSet ∨ (i ∈ refreshing ∧ t.valid = .replicate 16 true)) ∧
    (i = .rfSet → ∀ j, j ≠ s.larg[0].toNat → t.shadow[j]? = s.shadow[j]? ∧ t.valid[j]? = s.valid[j]?) ∧
    ((∃ j, (j < 2 ∨ 7 < j) ∧ t.shadow[j]? ≠ s.shadow[j]?) → i ∈ refreshing ∧ t.valid = .replicate 16 true) ∧
    (i ∈ [.busWrite, .busRead, .rfRefresh, .rfCommit, .tunerInit, .tuneSetFreq, .tuneGetFreq, .tuneIsReady,
      .tunerIsConnected, .tunerIsTuned, .tunerIsStereo, .tunerGetRssi, .tunerSetMono, .tunerSetSoftmute, .tunerSleep,
      .tunerWakeup, .rdsPoll] → s.phase = .idle → t.phase = .idle) ∧
    (i ∈ [.rfSet, .tuneGetMin, .tuneGetMax, .tuneSeekUp, .tuneSeekDown, .rdsDecode, .rdsReset] →
      t.phase = s.phase ∧ t.history = s.history ∧ t.bsc = s.bsc ∧ t.draws = s.draws)

/-- R42, R79: the bus history only grows: every step but a power-on reset leaves the earlier events in place. -/
def Obligations.HistoryOnlyGrows : Prop :=
  ∀ s t : State, resetsNext s = false → step s = .next t → s.history <+: t.history

/-- The invariants hold after reset, whatever the OPEN parameters are. -/
def Obligations.ResetMeetsTheInvariants : Prop :=
  Invariant State.reset ∧ BusCoherent State.reset

/-- R22, R40, R175 to R179: every step, whatever its turn, keeps the machine's invariant: a legal PTY, and a tune in progress
with nothing pending, an idle bus, a written shadow file and fewer polls than MAX_TUNE_POLLS. -/
def Obligations.StepKeepsInvariant : Prop :=
  ∀ s t : State, Invariant s → step s = .next t → Invariant t

/-- R29, R30, R284: every step but a power-on reset keeps PHASE and BSC in agreement with the bus history: no start is left
dangling behind an idle phase. -/
def Obligations.StepKeepsBusCoherent : Prop :=
  ∀ s t : State, BusCoherent s → resetsNext s = false → step s = .next t → BusCoherent t

/-- R36, R153, R175, R273: no model fault but two can stop the controller once the whole shadow file has been written: a
controller step goes on, unless it reads an unwritten XBUF byte or computes a channel above 1023. -/
def Obligations.WrittenShadowStepsOn : Prop :=
  ∀ s : State, s.valid = .replicate 16 true → nextTurn s = .controller →
    completes (step s) = true ∨ step s = .fault .xbufUnwritten ∨ step s = .fault .channelRange
end

