-- ==== Sys2Proof/Laws/State.lean ====
section
/-! SUPPORT. One lemma per field per update of the state, true by rfl: later proofs rewrite with them and never unfold an
update. -/
namespace Sys2Proof.Machine

/-! ### complete -/

section
variable (v : Word) (e : Err) (s : State)

@[simp] theorem complete_arg : (complete v e s).arg = s.arg := rfl
@[simp] theorem complete_result : (complete v e s).result = v := rfl
@[simp] theorem complete_pending : (complete v e s).pending = s.pending := rfl
@[simp] theorem complete_larg : (complete v e s).larg = s.larg := rfl
@[simp] theorem complete_seq : (complete v e s).seq = s.seq := rfl
@[simp] theorem complete_polls : (complete v e s).polls = s.polls := rfl
@[simp] theorem complete_bsc : (complete v e s).bsc = s.bsc := rfl
@[simp] theorem complete_drop : (complete v e s).drop = s.drop := rfl
@[simp] theorem complete_err : (complete v e s).err = e := rfl
@[simp] theorem complete_phase : (complete v e s).phase = s.phase := rfl
@[simp] theorem complete_shadow : (complete v e s).shadow = s.shadow := rfl
@[simp] theorem complete_valid : (complete v e s).valid = s.valid := rfl
@[simp] theorem complete_xbuf : (complete v e s).xbuf = s.xbuf := rfl
@[simp] theorem complete_xvalid : (complete v e s).xvalid = s.xvalid := rfl
@[simp] theorem complete_stg : (complete v e s).stg = s.stg := rfl
@[simp] theorem complete_ps : (complete v e s).ps = s.ps := rfl
@[simp] theorem complete_rt : (complete v e s).rt = s.rt := rfl
@[simp] theorem complete_wip : (complete v e s).wip = s.wip := rfl
@[simp] theorem complete_textAB : (complete v e s).textAB = s.textAB := rfl
@[simp] theorem complete_pty : (complete v e s).pty = s.pty := rfl
@[simp] theorem complete_readyEdge : (complete v e s).readyEdge = s.readyEdge := rfl
@[simp] theorem complete_history : (complete v e s).history = s.history := rfl
@[simp] theorem complete_params : (complete v e s).params = s.params := rfl
@[simp] theorem complete_answers : (complete v e s).answers = s.answers := rfl
@[simp] theorem complete_draws : (complete v e s).draws = s.draws := rfl
@[simp] theorem complete_schedule : (complete v e s).schedule = s.schedule := rfl
@[simp] theorem complete_hostReads : (complete v e s).hostReads = s.hostReads := rfl

end

/-! ### recordEvent -/

section
variable (e : BusEvent) (sc : Byte) (s : State)

@[simp] theorem recordEvent_arg : (recordEvent e sc s).arg = s.arg := rfl
@[simp] theorem recordEvent_result : (recordEvent e sc s).result = s.result := rfl
@[simp] theorem recordEvent_pending : (recordEvent e sc s).pending = s.pending := rfl
@[simp] theorem recordEvent_larg : (recordEvent e sc s).larg = s.larg := rfl
@[simp] theorem recordEvent_seq : (recordEvent e sc s).seq = s.seq := rfl
@[simp] theorem recordEvent_polls : (recordEvent e sc s).polls = s.polls := rfl
@[simp] theorem recordEvent_bsc : (recordEvent e sc s).bsc = sc := rfl
@[simp] theorem recordEvent_drop : (recordEvent e sc s).drop = s.drop := rfl
@[simp] theorem recordEvent_err : (recordEvent e sc s).err = s.err := rfl
@[simp] theorem recordEvent_phase : (recordEvent e sc s).phase = s.phase := rfl
@[simp] theorem recordEvent_shadow : (recordEvent e sc s).shadow = s.shadow := rfl
@[simp] theorem recordEvent_valid : (recordEvent e sc s).valid = s.valid := rfl
@[simp] theorem recordEvent_xbuf : (recordEvent e sc s).xbuf = s.xbuf := rfl
@[simp] theorem recordEvent_xvalid : (recordEvent e sc s).xvalid = s.xvalid := rfl
@[simp] theorem recordEvent_stg : (recordEvent e sc s).stg = s.stg := rfl
@[simp] theorem recordEvent_ps : (recordEvent e sc s).ps = s.ps := rfl
@[simp] theorem recordEvent_rt : (recordEvent e sc s).rt = s.rt := rfl
@[simp] theorem recordEvent_wip : (recordEvent e sc s).wip = s.wip := rfl
@[simp] theorem recordEvent_textAB : (recordEvent e sc s).textAB = s.textAB := rfl
@[simp] theorem recordEvent_pty : (recordEvent e sc s).pty = s.pty := rfl
@[simp] theorem recordEvent_readyEdge : (recordEvent e sc s).readyEdge = s.readyEdge := rfl
@[simp] theorem recordEvent_history : (recordEvent e sc s).history = s.history ++ [e] := rfl
@[simp] theorem recordEvent_params : (recordEvent e sc s).params = s.params := rfl
@[simp] theorem recordEvent_answers : (recordEvent e sc s).answers = s.answers.tail := rfl
@[simp] theorem recordEvent_draws : (recordEvent e sc s).draws = s.draws + 1 := rfl
@[simp] theorem recordEvent_schedule : (recordEvent e sc s).schedule = s.schedule := rfl
@[simp] theorem recordEvent_hostReads : (recordEvent e sc s).hostReads = s.hostReads := rfl

end

/-! ### busStop -/

section
variable (s : State)

@[simp] theorem busStop_arg : (busStop s).arg = s.arg := rfl
@[simp] theorem busStop_result : (busStop s).result = s.result := rfl
@[simp] theorem busStop_pending : (busStop s).pending = s.pending := rfl
@[simp] theorem busStop_larg : (busStop s).larg = s.larg := rfl
@[simp] theorem busStop_seq : (busStop s).seq = s.seq := rfl
@[simp] theorem busStop_polls : (busStop s).polls = s.polls := rfl
@[simp] theorem busStop_bsc : (busStop s).bsc = s.params.sc.noInfo := rfl
@[simp] theorem busStop_drop : (busStop s).drop = s.drop := rfl
@[simp] theorem busStop_err : (busStop s).err = s.err := rfl
@[simp] theorem busStop_phase : (busStop s).phase = .idle := rfl
@[simp] theorem busStop_shadow : (busStop s).shadow = s.shadow := rfl
@[simp] theorem busStop_valid : (busStop s).valid = s.valid := rfl
@[simp] theorem busStop_xbuf : (busStop s).xbuf = s.xbuf := rfl
@[simp] theorem busStop_xvalid : (busStop s).xvalid = s.xvalid := rfl
@[simp] theorem busStop_stg : (busStop s).stg = s.stg := rfl
@[simp] theorem busStop_ps : (busStop s).ps = s.ps := rfl
@[simp] theorem busStop_rt : (busStop s).rt = s.rt := rfl
@[simp] theorem busStop_wip : (busStop s).wip = s.wip := rfl
@[simp] theorem busStop_textAB : (busStop s).textAB = s.textAB := rfl
@[simp] theorem busStop_pty : (busStop s).pty = s.pty := rfl
@[simp] theorem busStop_readyEdge : (busStop s).readyEdge = s.readyEdge := rfl
@[simp] theorem busStop_history : (busStop s).history = s.history ++ [.stop] := rfl
@[simp] theorem busStop_params : (busStop s).params = s.params := rfl
@[simp] theorem busStop_answers : (busStop s).answers = s.answers := rfl
@[simp] theorem busStop_draws : (busStop s).draws = s.draws := rfl
@[simp] theorem busStop_schedule : (busStop s).schedule = s.schedule := rfl
@[simp] theorem busStop_hostReads : (busStop s).hostReads = s.hostReads := rfl

end

/-! ### setPhase -/

section
variable (p : Phase) (s : State)

@[simp] theorem setPhase_arg : (setPhase p s).arg = s.arg := rfl
@[simp] theorem setPhase_result : (setPhase p s).result = s.result := rfl
@[simp] theorem setPhase_pending : (setPhase p s).pending = s.pending := rfl
@[simp] theorem setPhase_larg : (setPhase p s).larg = s.larg := rfl
@[simp] theorem setPhase_seq : (setPhase p s).seq = s.seq := rfl
@[simp] theorem setPhase_polls : (setPhase p s).polls = s.polls := rfl
@[simp] theorem setPhase_bsc : (setPhase p s).bsc = s.bsc := rfl
@[simp] theorem setPhase_drop : (setPhase p s).drop = s.drop := rfl
@[simp] theorem setPhase_err : (setPhase p s).err = s.err := rfl
@[simp] theorem setPhase_phase : (setPhase p s).phase = p := rfl
@[simp] theorem setPhase_shadow : (setPhase p s).shadow = s.shadow := rfl
@[simp] theorem setPhase_valid : (setPhase p s).valid = s.valid := rfl
@[simp] theorem setPhase_xbuf : (setPhase p s).xbuf = s.xbuf := rfl
@[simp] theorem setPhase_xvalid : (setPhase p s).xvalid = s.xvalid := rfl
@[simp] theorem setPhase_stg : (setPhase p s).stg = s.stg := rfl
@[simp] theorem setPhase_ps : (setPhase p s).ps = s.ps := rfl
@[simp] theorem setPhase_rt : (setPhase p s).rt = s.rt := rfl
@[simp] theorem setPhase_wip : (setPhase p s).wip = s.wip := rfl
@[simp] theorem setPhase_textAB : (setPhase p s).textAB = s.textAB := rfl
@[simp] theorem setPhase_pty : (setPhase p s).pty = s.pty := rfl
@[simp] theorem setPhase_readyEdge : (setPhase p s).readyEdge = s.readyEdge := rfl
@[simp] theorem setPhase_history : (setPhase p s).history = s.history := rfl
@[simp] theorem setPhase_params : (setPhase p s).params = s.params := rfl
@[simp] theorem setPhase_answers : (setPhase p s).answers = s.answers := rfl
@[simp] theorem setPhase_draws : (setPhase p s).draws = s.draws := rfl
@[simp] theorem setPhase_schedule : (setPhase p s).schedule = s.schedule := rfl
@[simp] theorem setPhase_hostReads : (setPhase p s).hostReads = s.hostReads := rfl

end

/-! ### storeXbuf -/

section
variable (bs : List Byte) (s : State)

@[simp] theorem storeXbuf_arg : (storeXbuf bs s).arg = s.arg := rfl
@[simp] theorem storeXbuf_result : (storeXbuf bs s).result = s.result := rfl
@[simp] theorem storeXbuf_pending : (storeXbuf bs s).pending = s.pending := rfl
@[simp] theorem storeXbuf_larg : (storeXbuf bs s).larg = s.larg := rfl
@[simp] theorem storeXbuf_seq : (storeXbuf bs s).seq = s.seq := rfl
@[simp] theorem storeXbuf_polls : (storeXbuf bs s).polls = s.polls := rfl
@[simp] theorem storeXbuf_bsc : (storeXbuf bs s).bsc = s.bsc := rfl
@[simp] theorem storeXbuf_drop : (storeXbuf bs s).drop = s.drop := rfl
@[simp] theorem storeXbuf_err : (storeXbuf bs s).err = s.err := rfl
@[simp] theorem storeXbuf_phase : (storeXbuf bs s).phase = s.phase := rfl
@[simp] theorem storeXbuf_shadow : (storeXbuf bs s).shadow = s.shadow := rfl
@[simp] theorem storeXbuf_valid : (storeXbuf bs s).valid = s.valid := rfl
@[simp] theorem storeXbuf_xbuf : (storeXbuf bs s).xbuf = writeFrom s.xbuf 0 bs := rfl
@[simp] theorem storeXbuf_xvalid : (storeXbuf bs s).xvalid = writeFrom s.xvalid 0 (List.replicate bs.length true) := rfl
@[simp] theorem storeXbuf_stg : (storeXbuf bs s).stg = s.stg := rfl
@[simp] theorem storeXbuf_ps : (storeXbuf bs s).ps = s.ps := rfl
@[simp] theorem storeXbuf_rt : (storeXbuf bs s).rt = s.rt := rfl
@[simp] theorem storeXbuf_wip : (storeXbuf bs s).wip = s.wip := rfl
@[simp] theorem storeXbuf_textAB : (storeXbuf bs s).textAB = s.textAB := rfl
@[simp] theorem storeXbuf_pty : (storeXbuf bs s).pty = s.pty := rfl
@[simp] theorem storeXbuf_readyEdge : (storeXbuf bs s).readyEdge = s.readyEdge := rfl
@[simp] theorem storeXbuf_history : (storeXbuf bs s).history = s.history := rfl
@[simp] theorem storeXbuf_params : (storeXbuf bs s).params = s.params := rfl
@[simp] theorem storeXbuf_answers : (storeXbuf bs s).answers = s.answers := rfl
@[simp] theorem storeXbuf_draws : (storeXbuf bs s).draws = s.draws := rfl
@[simp] theorem storeXbuf_schedule : (storeXbuf bs s).schedule = s.schedule := rfl
@[simp] theorem storeXbuf_hostReads : (storeXbuf bs s).hostReads = s.hostReads := rfl

end

/-! ### storeStg -/

section
variable (bs : List Byte) (s : State)

@[simp] theorem storeStg_arg : (storeStg bs s).arg = s.arg := rfl
@[simp] theorem storeStg_result : (storeStg bs s).result = s.result := rfl
@[simp] theorem storeStg_pending : (storeStg bs s).pending = s.pending := rfl
@[simp] theorem storeStg_larg : (storeStg bs s).larg = s.larg := rfl
@[simp] theorem storeStg_seq : (storeStg bs s).seq = s.seq := rfl
@[simp] theorem storeStg_polls : (storeStg bs s).polls = s.polls := rfl
@[simp] theorem storeStg_bsc : (storeStg bs s).bsc = s.bsc := rfl
@[simp] theorem storeStg_drop : (storeStg bs s).drop = s.drop := rfl
@[simp] theorem storeStg_err : (storeStg bs s).err = s.err := rfl
@[simp] theorem storeStg_phase : (storeStg bs s).phase = s.phase := rfl
@[simp] theorem storeStg_shadow : (storeStg bs s).shadow = s.shadow := rfl
@[simp] theorem storeStg_valid : (storeStg bs s).valid = s.valid := rfl
@[simp] theorem storeStg_xbuf : (storeStg bs s).xbuf = s.xbuf := rfl
@[simp] theorem storeStg_xvalid : (storeStg bs s).xvalid = s.xvalid := rfl
@[simp] theorem storeStg_stg : (storeStg bs s).stg = writeFrom s.stg 0 bs := rfl
@[simp] theorem storeStg_ps : (storeStg bs s).ps = s.ps := rfl
@[simp] theorem storeStg_rt : (storeStg bs s).rt = s.rt := rfl
@[simp] theorem storeStg_wip : (storeStg bs s).wip = s.wip := rfl
@[simp] theorem storeStg_textAB : (storeStg bs s).textAB = s.textAB := rfl
@[simp] theorem storeStg_pty : (storeStg bs s).pty = s.pty := rfl
@[simp] theorem storeStg_readyEdge : (storeStg bs s).readyEdge = s.readyEdge := rfl
@[simp] theorem storeStg_history : (storeStg bs s).history = s.history := rfl
@[simp] theorem storeStg_params : (storeStg bs s).params = s.params := rfl
@[simp] theorem storeStg_answers : (storeStg bs s).answers = s.answers := rfl
@[simp] theorem storeStg_draws : (storeStg bs s).draws = s.draws := rfl
@[simp] theorem storeStg_schedule : (storeStg bs s).schedule = s.schedule := rfl
@[simp] theorem storeStg_hostReads : (storeStg bs s).hostReads = s.hostReads := rfl

end

/-! ### setShadow -/

section
variable (i : Fin 16) (v : Half) (s : State)

@[simp] theorem setShadow_arg : (setShadow i v s).arg = s.arg := rfl
@[simp] theorem setShadow_result : (setShadow i v s).result = s.result := rfl
@[simp] theorem setShadow_pending : (setShadow i v s).pending = s.pending := rfl
@[simp] theorem setShadow_larg : (setShadow i v s).larg = s.larg := rfl
@[simp] theorem setShadow_seq : (setShadow i v s).seq = s.seq := rfl
@[simp] theorem setShadow_polls : (setShadow i v s).polls = s.polls := rfl
@[simp] theorem setShadow_bsc : (setShadow i v s).bsc = s.bsc := rfl
@[simp] theorem setShadow_drop : (setShadow i v s).drop = s.drop := rfl
@[simp] theorem setShadow_err : (setShadow i v s).err = s.err := rfl
@[simp] theorem setShadow_phase : (setShadow i v s).phase = s.phase := rfl
@[simp] theorem setShadow_shadow : (setShadow i v s).shadow = s.shadow.set i v := rfl
@[simp] theorem setShadow_valid : (setShadow i v s).valid = s.valid := rfl
@[simp] theorem setShadow_xbuf : (setShadow i v s).xbuf = s.xbuf := rfl
@[simp] theorem setShadow_xvalid : (setShadow i v s).xvalid = s.xvalid := rfl
@[simp] theorem setShadow_stg : (setShadow i v s).stg = s.stg := rfl
@[simp] theorem setShadow_ps : (setShadow i v s).ps = s.ps := rfl
@[simp] theorem setShadow_rt : (setShadow i v s).rt = s.rt := rfl
@[simp] theorem setShadow_wip : (setShadow i v s).wip = s.wip := rfl
@[simp] theorem setShadow_textAB : (setShadow i v s).textAB = s.textAB := rfl
@[simp] theorem setShadow_pty : (setShadow i v s).pty = s.pty := rfl
@[simp] theorem setShadow_readyEdge : (setShadow i v s).readyEdge = s.readyEdge := rfl
@[simp] theorem setShadow_history : (setShadow i v s).history = s.history := rfl
@[simp] theorem setShadow_params : (setShadow i v s).params = s.params := rfl
@[simp] theorem setShadow_answers : (setShadow i v s).answers = s.answers := rfl
@[simp] theorem setShadow_draws : (setShadow i v s).draws = s.draws := rfl
@[simp] theorem setShadow_schedule : (setShadow i v s).schedule = s.schedule := rfl
@[simp] theorem setShadow_hostReads : (setShadow i v s).hostReads = s.hostReads := rfl

end

/-! ### loadShadow -/

section
variable (s : State)

@[simp] theorem loadShadow_arg : (loadShadow s).arg = s.arg := rfl
@[simp] theorem loadShadow_result : (loadShadow s).result = s.result := rfl
@[simp] theorem loadShadow_pending : (loadShadow s).pending = s.pending := rfl
@[simp] theorem loadShadow_larg : (loadShadow s).larg = s.larg := rfl
@[simp] theorem loadShadow_seq : (loadShadow s).seq = s.seq := rfl
@[simp] theorem loadShadow_polls : (loadShadow s).polls = s.polls := rfl
@[simp] theorem loadShadow_bsc : (loadShadow s).bsc = s.bsc := rfl
@[simp] theorem loadShadow_drop : (loadShadow s).drop = s.drop := rfl
@[simp] theorem loadShadow_err : (loadShadow s).err = s.err := rfl
@[simp] theorem loadShadow_phase : (loadShadow s).phase = s.phase := rfl
@[simp] theorem loadShadow_shadow : (loadShadow s).shadow = Vector.ofFn (fun r : Fin 16 => stagedRegister s.stg r) := rfl
@[simp] theorem loadShadow_valid : (loadShadow s).valid = .replicate 16 true := rfl
@[simp] theorem loadShadow_xbuf : (loadShadow s).xbuf = s.xbuf := rfl
@[simp] theorem loadShadow_xvalid : (loadShadow s).xvalid = s.xvalid := rfl
@[simp] theorem loadShadow_stg : (loadShadow s).stg = s.stg := rfl
@[simp] theorem loadShadow_ps : (loadShadow s).ps = s.ps := rfl
@[simp] theorem loadShadow_rt : (loadShadow s).rt = s.rt := rfl
@[simp] theorem loadShadow_wip : (loadShadow s).wip = s.wip := rfl
@[simp] theorem loadShadow_textAB : (loadShadow s).textAB = s.textAB := rfl
@[simp] theorem loadShadow_pty : (loadShadow s).pty = s.pty := rfl
@[simp] theorem loadShadow_readyEdge : (loadShadow s).readyEdge = s.readyEdge := rfl
@[simp] theorem loadShadow_history : (loadShadow s).history = s.history := rfl
@[simp] theorem loadShadow_params : (loadShadow s).params = s.params := rfl
@[simp] theorem loadShadow_answers : (loadShadow s).answers = s.answers := rfl
@[simp] theorem loadShadow_draws : (loadShadow s).draws = s.draws := rfl
@[simp] theorem loadShadow_schedule : (loadShadow s).schedule = s.schedule := rfl
@[simp] theorem loadShadow_hostReads : (loadShadow s).hostReads = s.hostReads := rfl

end

/-! ### rdsClear -/

section
variable (s : State)

@[simp] theorem rdsClear_arg : (rdsClear s).arg = s.arg := rfl
@[simp] theorem rdsClear_result : (rdsClear s).result = s.result := rfl
@[simp] theorem rdsClear_pending : (rdsClear s).pending = s.pending := rfl
@[simp] theorem rdsClear_larg : (rdsClear s).larg = s.larg := rfl
@[simp] theorem rdsClear_seq : (rdsClear s).seq = s.seq := rfl
@[simp] theorem rdsClear_polls : (rdsClear s).polls = s.polls := rfl
@[simp] theorem rdsClear_bsc : (rdsClear s).bsc = s.bsc := rfl
@[simp] theorem rdsClear_drop : (rdsClear s).drop = s.drop := rfl
@[simp] theorem rdsClear_err : (rdsClear s).err = s.err := rfl
@[simp] theorem rdsClear_phase : (rdsClear s).phase = s.phase := rfl
@[simp] theorem rdsClear_shadow : (rdsClear s).shadow = s.shadow := rfl
@[simp] theorem rdsClear_valid : (rdsClear s).valid = s.valid := rfl
@[simp] theorem rdsClear_xbuf : (rdsClear s).xbuf = s.xbuf := rfl
@[simp] theorem rdsClear_xvalid : (rdsClear s).xvalid = s.xvalid := rfl
@[simp] theorem rdsClear_stg : (rdsClear s).stg = s.stg := rfl
@[simp] theorem rdsClear_ps : (rdsClear s).ps = .replicate 8 0 := rfl
@[simp] theorem rdsClear_rt : (rdsClear s).rt = .replicate 64 0 := rfl
@[simp] theorem rdsClear_wip : (rdsClear s).wip = .replicate 64 0 := rfl
@[simp] theorem rdsClear_textAB : (rdsClear s).textAB = false := rfl
@[simp] theorem rdsClear_pty : (rdsClear s).pty = -1 := rfl
@[simp] theorem rdsClear_readyEdge : (rdsClear s).readyEdge = s.readyEdge := rfl
@[simp] theorem rdsClear_history : (rdsClear s).history = s.history := rfl
@[simp] theorem rdsClear_params : (rdsClear s).params = s.params := rfl
@[simp] theorem rdsClear_answers : (rdsClear s).answers = s.answers := rfl
@[simp] theorem rdsClear_draws : (rdsClear s).draws = s.draws := rfl
@[simp] theorem rdsClear_schedule : (rdsClear s).schedule = s.schedule := rfl
@[simp] theorem rdsClear_hostReads : (rdsClear s).hostReads = s.hostReads := rfl

end

end Sys2Proof.Machine
end

