-- ==== Sys2Proof/Laws/Ops.lean ====
section
/-! SUPPORT. For each shared operation, what it can do: the lemmas that proofs cite instead of unfolding it. -/
namespace Sys2Proof.Machine

/-! ### What bus events leave alone -/

/-- `t` differs from `s` at most in the bus master's own fields. -/
def BusFrame (s t : State) : Prop :=
  t = { s with answers := t.answers, draws := t.draws, history := t.history, bsc := t.bsc, phase := t.phase }

theorem BusFrame.refl (s : State) : BusFrame s s := rfl

theorem BusFrame.trans {s t u : State} (h : BusFrame s t) (h' : BusFrame t u) : BusFrame s u := by
  unfold BusFrame at *
  rw [h'] ; rw [h]

section
variable {s t : State}
theorem BusFrame.arg (h : BusFrame s t) : t.arg = s.arg := by unfold BusFrame at h; rw [h]
theorem BusFrame.result (h : BusFrame s t) : t.result = s.result := by unfold BusFrame at h; rw [h]
theorem BusFrame.pending (h : BusFrame s t) : t.pending = s.pending := by unfold BusFrame at h; rw [h]
theorem BusFrame.larg (h : BusFrame s t) : t.larg = s.larg := by unfold BusFrame at h; rw [h]
theorem BusFrame.seq (h : BusFrame s t) : t.seq = s.seq := by unfold BusFrame at h; rw [h]
theorem BusFrame.polls (h : BusFrame s t) : t.polls = s.polls := by unfold BusFrame at h; rw [h]
theorem BusFrame.drop (h : BusFrame s t) : t.drop = s.drop := by unfold BusFrame at h; rw [h]
theorem BusFrame.err (h : BusFrame s t) : t.err = s.err := by unfold BusFrame at h; rw [h]
theorem BusFrame.shadow (h : BusFrame s t) : t.shadow = s.shadow := by unfold BusFrame at h; rw [h]
theorem BusFrame.valid (h : BusFrame s t) : t.valid = s.valid := by unfold BusFrame at h; rw [h]
theorem BusFrame.xbuf (h : BusFrame s t) : t.xbuf = s.xbuf := by unfold BusFrame at h; rw [h]
theorem BusFrame.xvalid (h : BusFrame s t) : t.xvalid = s.xvalid := by unfold BusFrame at h; rw [h]
theorem BusFrame.stg (h : BusFrame s t) : t.stg = s.stg := by unfold BusFrame at h; rw [h]
theorem BusFrame.ps (h : BusFrame s t) : t.ps = s.ps := by unfold BusFrame at h; rw [h]
theorem BusFrame.rt (h : BusFrame s t) : t.rt = s.rt := by unfold BusFrame at h; rw [h]
theorem BusFrame.wip (h : BusFrame s t) : t.wip = s.wip := by unfold BusFrame at h; rw [h]
theorem BusFrame.textAB (h : BusFrame s t) : t.textAB = s.textAB := by unfold BusFrame at h; rw [h]
theorem BusFrame.pty (h : BusFrame s t) : t.pty = s.pty := by unfold BusFrame at h; rw [h]
theorem BusFrame.readyEdge (h : BusFrame s t) : t.readyEdge = s.readyEdge := by unfold BusFrame at h; rw [h]
theorem BusFrame.params (h : BusFrame s t) : t.params = s.params := by unfold BusFrame at h; rw [h]
theorem BusFrame.schedule (h : BusFrame s t) : t.schedule = s.schedule := by unfold BusFrame at h; rw [h]
theorem BusFrame.hostReads (h : BusFrame s t) : t.hostReads = s.hostReads := by unfold BusFrame at h; rw [h]
end

theorem recordEvent_frame (e : BusEvent) (sc : Byte) (s : State) : BusFrame s (recordEvent e sc s) := rfl

theorem busStop_frame (s : State) : BusFrame s (busStop s) := rfl

theorem setPhase_frame (p : Phase) (s : State) : BusFrame s (setPhase p s) := rfl

/-! ### Answers -/

theorem nextAnswer_listed (r : BusRequest) (s : State) (a : BusAnswer) (rest : List BusAnswer)
    (h : s.answers = a :: rest) : nextAnswer r s = a := by simp [nextAnswer, h]

theorem nextAnswer_free (r : BusRequest) (s : State) (h : s.answers = []) :
    nextAnswer r s = ⟨(Config.busOracle s.draws s.history r).1, (Config.busOracle s.draws s.history r).2⟩ := by
  simp [nextAnswer, h]

/-- An answer depends on nothing but the answers listed, the draws made and the history (R113). -/
theorem nextAnswer_congr (r : BusRequest) {s t : State} (ha : s.answers = t.answers) (hd : s.draws = t.draws)
    (hh : s.history = t.history) : nextAnswer r s = nextAnswer r t := by unfold nextAnswer; rw [ha, hd, hh]

theorem busStart_eq (s : State) :
    busStart s = ((nextAnswer .start s).sc,
      recordEvent (.start (nextAnswer .start s).sc) (nextAnswer .start s).sc s) := rfl

theorem busAddr_eq (b : Byte) (s : State) :
    busAddr b s = ((nextAnswer (.addr b) s).sc,
      recordEvent (.addr b (nextAnswer (.addr b) s).sc) (nextAnswer (.addr b) s).sc s) := rfl

theorem busTx_eq (b : Byte) (s : State) :
    busTx b s = ((nextAnswer (.tx b) s).sc,
      recordEvent (.tx b (nextAnswer (.tx b) s).sc) (nextAnswer (.tx b) s).sc s) := rfl

theorem busRx_eq (ack : Bool) (s : State) :
    busRx ack s = (((nextAnswer (.rx ack) s).data, (nextAnswer (.rx ack) s).sc),
      recordEvent (.rx ack (nextAnswer (.rx ack) s).data (nextAnswer (.rx ack) s).sc)
        (nextAnswer (.rx ack) s).sc s) := rfl

/-! ### Sequences -/

theorem sendSeq_nil (s : State) : sendSeq [] s = (0, s) := rfl

theorem sendSeq_cons_ack (b : Byte) (rest : List Byte) (s : State) (h : (busTx b s).1 = s.params.sc.mtDataAck) :
    sendSeq (b :: rest) s = ((sendSeq rest (busTx b s).2).1 + 1, (sendSeq rest (busTx b s).2).2) := by
  simp [sendSeq, h]

theorem sendSeq_cons_nak (b : Byte) (rest : List Byte) (s : State) (h : (busTx b s).1 ≠ s.params.sc.mtDataAck) :
    sendSeq (b :: rest) s = (0, setPhase .held (busTx b s).2) := by
  simp [sendSeq, h]

theorem recvSeq_zero (s : State) : recvSeq 0 s = ([], busStop s) := rfl

theorem recvSeq_succ_good (n : Nat) (s : State) (ack : Bool) (ha : ack = decide (n ≠ 0))
    (h : (busRx ack s).1.2 = rxCode s.params.sc ack) :
    recvSeq (n + 1) s = ((busRx ack s).1.1 :: (recvSeq n (busRx ack s).2).1, (recvSeq n (busRx ack s).2).2) := by
  subst ha; simp only [recvSeq]; rw [if_pos h]

theorem recvSeq_succ_bad (n : Nat) (s : State) (ack : Bool) (ha : ack = decide (n ≠ 0))
    (h : (busRx ack s).1.2 ≠ rxCode s.params.sc ack) :
    recvSeq (n + 1) s = ([], busStop (busRx ack s).2) := by
  subst ha; simp only [recvSeq]; rw [if_neg h]

theorem sendSeq_frame (bs : List Byte) (s : State) : BusFrame s (sendSeq bs s).2 := by
  induction bs generalizing s with
  | nil => exact BusFrame.refl s
  | cons b rest ih =>
    by_cases h : (busTx b s).1 = s.params.sc.mtDataAck
    · rw [sendSeq_cons_ack b rest s h]; exact BusFrame.trans (recordEvent_frame _ _ s) (ih _)
    · rw [sendSeq_cons_nak b rest s h]; exact BusFrame.trans (recordEvent_frame _ _ s) (setPhase_frame _ _)

theorem recvSeq_frame (n : Nat) (s : State) : BusFrame s (recvSeq n s).2 := by
  induction n generalizing s with
  | zero => exact busStop_frame s
  | succ n ih =>
    by_cases h : (busRx (decide (n ≠ 0)) s).1.2 = rxCode s.params.sc (decide (n ≠ 0))
    · rw [recvSeq_succ_good n s _ rfl h]; exact BusFrame.trans (recordEvent_frame _ _ s) (ih _)
    · rw [recvSeq_succ_bad n s _ rfl h]; exact BusFrame.trans (recordEvent_frame _ _ s) (busStop_frame _)

/-- A receive ends with a stop, whatever was received. -/
theorem recvSeq_ends_with_stop (n : Nat) (s : State) :
    ∃ u, BusFrame s u ∧ s.history <+: u.history ∧ (recvSeq n s).2 = busStop u := by
  induction n generalizing s with
  | zero => exact ⟨s, BusFrame.refl s, List.prefix_rfl, rfl⟩
  | succ n ih =>
    by_cases h : (busRx (decide (n ≠ 0)) s).1.2 = rxCode s.params.sc (decide (n ≠ 0))
    · rw [recvSeq_succ_good n s _ rfl h]
      obtain ⟨u, hf, hh, hu⟩ := ih (busRx (decide (n ≠ 0)) s).2
      exact ⟨u, BusFrame.trans (recordEvent_frame _ _ s) hf, (List.prefix_append _ _).trans hh, hu⟩
    · rw [recvSeq_succ_bad n s _ rfl h]
      exact ⟨_, recordEvent_frame _ _ s, List.prefix_append _ _, rfl⟩

theorem sendSeq_history_grows (bs : List Byte) (s : State) : s.history <+: (sendSeq bs s).2.history := by
  induction bs generalizing s with
  | nil => exact List.prefix_rfl
  | cons b rest ih =>
    by_cases h : (busTx b s).1 = s.params.sc.mtDataAck
    · rw [sendSeq_cons_ack b rest s h]
      exact (show s.history <+: (busTx b s).2.history from List.prefix_append _ _).trans (ih (busTx b s).2)
    · rw [sendSeq_cons_nak b rest s h]; exact List.prefix_append _ _

/-- The opening of a transaction whose start fails (R121, R122). -/
theorem openSeq_of_start_failed (slave : BitVec 7) (dir : Bool) (s : State)
    (h : startOk s.params.sc (busStart s).1 = false) : openSeq slave dir s = (false, busStop (busStart s).2) := by
  simp [openSeq, h]

/-- The opening of a transaction whose address byte is not acknowledged (R121, R122). -/
theorem openSeq_of_address_failed (slave : BitVec 7) (dir : Bool) (s : State)
    (h : startOk s.params.sc (busStart s).1 = true)
    (h' : (busAddr (addressByte slave dir) (busStart s).2).1 ≠ slaAck s.params.sc dir) :
    openSeq slave dir s = (false, busStop (busAddr (addressByte slave dir) (busStart s).2).2) := by
  simp [openSeq, h, h']

/-- The opening of a transaction that both answers allow (R121, R122). -/
theorem openSeq_of_acknowledged (slave : BitVec 7) (dir : Bool) (s : State)
    (h : startOk s.params.sc (busStart s).1 = true)
    (h' : (busAddr (addressByte slave dir) (busStart s).2).1 = slaAck s.params.sc dir) :
    openSeq slave dir s = (true, (busAddr (addressByte slave dir) (busStart s).2).2) := by
  simp [openSeq, h, h']

/-- The opening of a transaction either succeeds, or has ended with a stop. -/
theorem openSeq_cases (slave : BitVec 7) (dir : Bool) (s : State) :
    ∃ u, BusFrame s u ∧ s.history <+: u.history ∧
      (openSeq slave dir s = (true, u) ∨ openSeq slave dir s = (false, busStop u)) := by
  have hf : BusFrame s (busStart s).2 := recordEvent_frame _ _ s
  have hh : s.history <+: (busStart s).2.history := List.prefix_append _ _
  by_cases h : startOk s.params.sc (busStart s).1
  · have hf' : BusFrame s (busAddr (addressByte slave dir) (busStart s).2).2 := hf.trans (recordEvent_frame _ _ _)
    have hh' : s.history <+: (busAddr (addressByte slave dir) (busStart s).2).2.history :=
      hh.trans (List.prefix_append _ _)
    by_cases h' : (busAddr (addressByte slave dir) (busStart s).2).1 = slaAck s.params.sc dir
    · exact ⟨_, hf', hh', Or.inl (by simp only [openSeq, h, h', if_true])⟩
    · exact ⟨_, hf', hh', Or.inr (by simp only [openSeq, h, h', if_true, if_false])⟩
  · exact ⟨_, hf, hh, Or.inr (by simp only [openSeq, h, if_false, Bool.false_eq_true])⟩

/-- A write transaction ends with a stop on every path (R121). -/
theorem writeSeq_ends_with_stop (slave : BitVec 7) (src : List Byte) (s : State) :
    ∃ u, BusFrame s u ∧ s.history <+: u.history ∧ (writeSeq slave src s).2 = busStop u := by
  obtain ⟨u, hf, hh, h | h⟩ := openSeq_cases slave false s
  · exact ⟨(sendSeq src u).2, BusFrame.trans hf (sendSeq_frame _ _), hh.trans (sendSeq_history_grows _ _),
      by simp [writeSeq, h]⟩
  · exact ⟨u, hf, hh, by simp [writeSeq, h]⟩

/-- A read transaction ends with a stop on every path (R122). -/
theorem readSeq_ends_with_stop (slave : BitVec 7) (n : Nat) (s : State) :
    ∃ u, BusFrame s u ∧ s.history <+: u.history ∧ (readSeq slave n s).2 = busStop u := by
  obtain ⟨u, hf, hh, h | h⟩ := openSeq_cases slave true s
  · obtain ⟨v, hf', hh', hv⟩ := recvSeq_ends_with_stop n u
    exact ⟨v, BusFrame.trans hf hf', hh.trans hh', by simp [readSeq, h, hv]⟩
  · exact ⟨u, hf, hh, by simp [readSeq, h]⟩

/-! ### Buffers -/

theorem writeFrom_getElem? {α : Type} {n : Nat} (v : Vector α n) (i : Nat) (xs : List α) (j : Nat) :
    (writeFrom v i xs)[j]? = if i ≤ j ∧ j < i + xs.length ∧ j < n then xs[j - i]? else v[j]? := by
  induction xs generalizing v i with
  | nil => simp [writeFrom]; omega
  | cons x xs ih =>
    rw [writeFrom, ih]
    by_cases hj : j = i
    · subst hj
      by_cases hn : j < n
      · simp [hn]
      · simp [hn]
    · by_cases hl : i + 1 ≤ j ∧ j < i + 1 + xs.length ∧ j < n
      · rw [if_pos hl, if_pos (by simp only [List.length_cons]; omega)]
        obtain ⟨k, hk⟩ : ∃ k, j - i = k + 1 := ⟨j - i - 1, by omega⟩
        rw [hk, List.getElem?_cons_succ, show j - (i + 1) = k by omega]
      · rw [if_neg hl, if_neg (by simp only [List.length_cons]; omega),
          Vector.getElem?_setIfInBounds_ne (Ne.symm hj)]

/-! ### The register-file engine -/

theorem burstPlace_burstRegister (k : Nat) (h : k < 16) : burstPlace (burstRegister k) = k := by
  unfold burstPlace burstRegister; omega

/-- What a refresh can do (R152): a whole burst fills the shadow file, a short one leaves it; either way the read ended with
a stop, and beside the bus only STG changed. -/
theorem refresh_cases (s : State) :
    ∃ (u : State) (bs : List Byte), BusFrame s u ∧ s.history <+: u.history ∧
      ((bs.length = readLen ∧ refresh s = (true, loadShadow (storeStg bs (busStop u)))) ∨
       (bs.length ≠ readLen ∧ refresh s = (false, storeStg bs (busStop u)))) := by
  obtain ⟨u, hf, hh, hu⟩ := readSeq_ends_with_stop s.params.tunerAddr readLen s
  refine ⟨u, (readSeq s.params.tunerAddr readLen s).1.getD [], hf, hh, ?_⟩
  by_cases h : ((readSeq s.params.tunerAddr readLen s).1.getD []).length = readLen
  · exact Or.inl ⟨h, by simp only [refresh, h, hu, if_true]⟩
  · exact Or.inr ⟨h, by simp only [refresh, h, hu, if_false]⟩

/-- What a commit can do (R153): fault before any event, or one write that ended with a stop; beside the bus only STG
changed. -/
theorem commit_cases (s : State) :
    (commitReady s = false ∧ commit s = .error .shadowUnwritten) ∨
    (commitReady s = true ∧ ∃ (ok : Bool) (u : State),
      BusFrame (storeStg (commitBytes s) s) u ∧ s.history <+: u.history ∧ commit s = .ok (ok, busStop u)) := by
  cases h : commitReady s with
  | false => exact Or.inl ⟨rfl, by simp [commit, h]⟩
  | true =>
    obtain ⟨u, hf, hh, hu⟩ := writeSeq_ends_with_stop s.params.tunerAddr (commitBytes s) (storeStg (commitBytes s) s)
    refine Or.inr ⟨rfl,
      decide ((writeSeq s.params.tunerAddr (commitBytes s) (storeStg (commitBytes s) s)).1 = some writeLen), u, hf, hh, ?_⟩
    simp only [commit, h, if_true, hu]

theorem commitReady_of_all_valid (s : State) (h : s.valid = .replicate 16 true) : commitReady s = true := by
  unfold commitReady; rw [h]; decide

/-- After a written shadow file a commit does not fault. -/
theorem commit_of_all_valid (s : State) (h : s.valid = .replicate 16 true) :
    ∃ (ok : Bool) (u : State),
      BusFrame (storeStg (commitBytes s) s) u ∧ s.history <+: u.history ∧ commit s = .ok (ok, busStop u) := by
  rcases commit_cases s with ⟨h', _⟩ | ⟨_, h'⟩
  · rw [commitReady_of_all_valid s h] at h'; cases h'
  · exact h'

/-! ### The checks of a command -/

theorem guarded_legal (i : Instr) (s : State) (body : Result) (h : operandsLegal i s = true)
    (h' : phaseAllowed i s.phase = true) : guarded i s body = body := by simp [guarded, h, h']

theorem guarded_illegal_operand (i : Instr) (s : State) (body : Result) (h : operandsLegal i s = false) :
    guarded i s body = .next { s with result := 0, err := .illegalOperand } := by
  simp [guarded, h, raise, complete]

theorem guarded_illegal_phase (i : Instr) (s : State) (body : Result) (h : operandsLegal i s = true)
    (h' : phaseAllowed i s.phase = false) :
    guarded i s body = .next { s with result := 0, err := .illegalSequence } := by
  simp [guarded, h, h', raise, complete]

theorem mapNext_next (f : State → State) (t : State) : mapNext f (.next t) = .next (f t) := rfl

theorem mapNext_eq_next {f : State → State} {r : Result} {t : State} (h : mapNext f r = .next t) :
    ∃ u, r = .next u ∧ t = f u := by
  cases r with
  | next u => exact ⟨u, rfl, by simpa [mapNext] using h.symm⟩
  | fault x => simp [mapNext] at h
  | refused x => simp [mapNext] at h

theorem withCommit_ok (s t : State) (ok : Bool) (k : Bool → State → Result) (h : commit s = .ok (ok, t)) :
    withCommit s k = k ok t := by simp [withCommit, h]

theorem withCommit_error (s : State) (x : Fault) (k : Bool → State → Result) (h : commit s = .error x) :
    withCommit s k = .fault x := by simp [withCommit, h]

end Sys2Proof.Machine
end

