-- ==== Sys2Proof/Laws/PerInstr.lean ====
section
/-! SUPPORT. Statements made per command: the word of each command is well formed (30_encoding.md R90, R95, R98). -/
namespace Sys2Proof.Laws.EncodedWord

/-- The command word of a command has its ZERO field clear and an assigned opcode. -/
def Statement (i : Instr) : Prop := wellFormedWord (encode i) = true

theorem busStart : Statement .busStart := rfl
theorem busStop : Statement .busStop := rfl
theorem busAddr : Statement .busAddr := rfl
theorem busSendByte : Statement .busSendByte := rfl
theorem busSend : Statement .busSend := rfl
theorem busRecv : Statement .busRecv := rfl
theorem busWrite : Statement .busWrite := rfl
theorem busRead : Statement .busRead := rfl
theorem rfRefresh : Statement .rfRefresh := rfl
theorem rfCommit : Statement .rfCommit := rfl
theorem rfSet : Statement .rfSet := rfl
theorem tunerInit : Statement .tunerInit := rfl
theorem tuneSetFreq : Statement .tuneSetFreq := rfl
theorem tuneGetFreq : Statement .tuneGetFreq := rfl
theorem tuneIsReady : Statement .tuneIsReady := rfl
theorem tunerIsConnected : Statement .tunerIsConnected := rfl
theorem tuneGetMin : Statement .tuneGetMin := rfl
theorem tuneGetMax : Statement .tuneGetMax := rfl
theorem tunerIsTuned : Statement .tunerIsTuned := rfl
theorem tunerIsStereo : Statement .tunerIsStereo := rfl
theorem tunerGetRssi : Statement .tunerGetRssi := rfl
theorem tunerSetMono : Statement .tunerSetMono := rfl
theorem tunerSetSoftmute : Statement .tunerSetSoftmute := rfl
theorem tunerSleep : Statement .tunerSleep := rfl
theorem tunerWakeup : Statement .tunerWakeup := rfl
theorem tuneSeekUp : Statement .tuneSeekUp := rfl
theorem tuneSeekDown : Statement .tuneSeekDown := rfl
theorem rdsPoll : Statement .rdsPoll := rfl
theorem rdsDecode : Statement .rdsDecode := rfl
theorem rdsReset : Statement .rdsReset := rfl

end Sys2Proof.Laws.EncodedWord
end

