-- ==== Sys2Proof/Tests/Slice0.lean ====
section
/-! SUPPORT. The model's own tests: the decoding of words written out from spec/30_encoding.md, the checks of WellFormed on
ill-formed terms, single steps with the expected results of spec/95_test_vectors.md (the vector's name stands in each
docstring), and for each obligation with hypotheses a state that meets them. -/
namespace Sys2Proof.Tests
open Sys2Proof Sys2Proof.Machine

/-! ### Decoding (30_encoding.md R90, R92, R98) -/

/-- Family BUS, 0x10 to 0x17. -/
theorem test_decode_bus :
    decode 0b00000000000000000000000000010000#32 = .ok .busStart ∧
    decode 0b00000000000000000000000000010001#32 = .ok .busStop ∧
    decode 0b00000000000000000000000000010010#32 = .ok .busAddr ∧
    decode 0b00000000000000000000000000010011#32 = .ok .busSendByte ∧
    decode 0b00000000000000000000000000010100#32 = .ok .busSend ∧
    decode 0b00000000000000000000000000010101#32 = .ok .busRecv ∧
    decode 0b00000000000000000000000000010110#32 = .ok .busWrite ∧
    decode 0b00000000000000000000000000010111#32 = .ok .busRead := by decide

/-- Family RF, 0x20 to 0x22. -/
theorem test_decode_rf :
    decode 0b00000000000000000000000000100000#32 = .ok .rfRefresh ∧
    decode 0b00000000000000000000000000100001#32 = .ok .rfCommit ∧
    decode 0b00000000000000000000000000100010#32 = .ok .rfSet := by decide

/-- Family TUNE and TUNER, 0x30 to 0x3F. -/
theorem test_decode_tuner :
    decode 0b00000000000000000000000000110000#32 = .ok .tunerInit ∧
    decode 0b00000000000000000000000000110001#32 = .ok .tuneSetFreq ∧
    decode 0b00000000000000000000000000110010#32 = .ok .tuneGetFreq ∧
    decode 0b00000000000000000000000000110011#32 = .ok .tuneIsReady ∧
    decode 0b00000000000000000000000000110100#32 = .ok .tunerIsConnected ∧
    decode 0b00000000000000000000000000110101#32 = .ok .tuneGetMin ∧
    decode 0b00000000000000000000000000110110#32 = .ok .tuneGetMax ∧
    decode 0b00000000000000000000000000110111#32 = .ok .tunerIsTuned ∧
    decode 0b00000000000000000000000000111000#32 = .ok .tunerIsStereo ∧
    decode 0b00000000000000000000000000111001#32 = .ok .tunerGetRssi ∧
    decode 0b00000000000000000000000000111010#32 = .ok .tunerSetMono ∧
    decode 0b00000000000000000000000000111011#32 = .ok .tunerSetSoftmute ∧
    decode 0b00000000000000000000000000111100#32 = .ok .tunerSleep ∧
    decode 0b00000000000000000000000000111101#32 = .ok .tunerWakeup ∧
    decode 0b00000000000000000000000000111110#32 = .ok .tuneSeekUp ∧
    decode 0b00000000000000000000000000111111#32 = .ok .tuneSeekDown := by decide

/-- Family RDS, 0x40 to 0x42. -/
theorem test_decode_rds :
    decode 0b00000000000000000000000001000000#32 = .ok .rdsPoll ∧
    decode 0b00000000000000000000000001000001#32 = .ok .rdsDecode ∧
    decode 0b00000000000000000000000001000010#32 = .ok .rdsReset := by decide

/-- E1 to E5 and the ends of the unassigned ranges: each is refused by name. -/
theorem test_decode_refuses :
    decode 0x00000120 = .error .zeroField ∧ decode 0x80000010 = .error .zeroField ∧
    decode 0x00 = .error (.unassigned 0x00) ∧ decode 0x0F = .error (.unassigned 0x0F) ∧
    decode 0x18 = .error (.unassigned 0x18) ∧ decode 0x1F = .error (.unassigned 0x1F) ∧
    decode 0x23 = .error (.unassigned 0x23) ∧ decode 0x2F = .error (.unassigned 0x2F) ∧
    decode 0x43 = .error (.unassigned 0x43) ∧ decode 0xFF = .error (.unassigned 0xFF) := by decide

/-- The numbering of the opcode table: eight bits, or the whole word; nothing longer is an instruction. -/
theorem test_decode_table_word :
    decodeTableWord 8 0x41 = some .rdsDecode ∧ decodeTableWord 32 0x41 = some .rdsDecode ∧
    decodeTableWord 32 0x141 = none ∧ decodeTableWord 40 0x41 = none := by decide

/-! ### WellFormed: what each check refuses -/

/-- Concrete parameters for the tests: the defaults, with the identifiers of program P3 and a bound of three polls. -/
def params : Params :=
  { defaultParams with id0Expect := 0x1242, id0Mask := 0xFFFF, id1Expect := 0, id1Mask := 0, maxTunePolls := some 3 }

theorem test_params_well_formed : wellFormedParams params = true := by decide

theorem test_zeroFieldClear_refuses : zeroFieldClear 0x00000120 = false ∧ wellFormedWord 0x00000120 = false := by decide

theorem test_assignedOpcode_refuses :
    assignedOpcode 0x0F = false ∧ assignedOpcode 0x18 = false ∧ assignedOpcode 0x23 = false ∧
    assignedOpcode 0x43 = false ∧ wellFormedWord 0x00000043 = false := by decide

theorem test_wellFormedBands_refuses :
    wellFormedBands { params with bandMin := ⟨8750, 7600, 10801, 7600⟩ } = false ∧
    wellFormedParams { params with bandMin := ⟨8750, 7600, 10801, 7600⟩ } = false := by decide

theorem test_wellFormedSpacing_refuses :
    wellFormedSpacing { params with spacing := ⟨20, 0, 5⟩ } = false ∧
    wellFormedParams { params with spacing := ⟨20, 0, 5⟩ } = false := by decide

theorem test_wellFormedBound_refuses :
    wellFormedBound { params with maxTunePolls := some 0 } = false ∧
    wellFormedParams { params with maxTunePolls := some 0 } = false ∧
    wellFormedBound { params with maxTunePolls := none } = true := by decide

theorem test_wellFormedFields_refuses :
    wellFormedFields { params with fields := { defaultFields with tune := 9 } } = false ∧
    wellFormedFields { params with fields := { defaultFields with rssi := 9 } } = false ∧
    wellFormedParams { params with fields := { defaultFields with mono := 16 } } = false := by decide

/-! ### States for the tests -/

/-- The reset state with the tests' parameters. -/
def blank : State := { State.reset with params := params }

/-- Every shadow register written; register 5 holds `r5`. -/
def configured (r5 : Half) : State := { blank with shadow := blank.shadow.set 5 r5, valid := .replicate 16 true }

/-- The state with a command's operands latched. -/
def withOperands (a b c d : Word) (s : State) : State := { s with larg := #v[a, b, c, d] }

/-- The state with the bus master in a phase. -/
def inPhase (p : Phase) (s : State) : State := { s with phase := p }

/-- The state in which the bus answers these codes, with no bytes. -/
def answering (codes : List Byte) (s : State) : State := { s with answers := codes.map fun sc => ⟨sc, 0⟩ }

/-- The answers of a tuner with these registers to a refresh (the reference slave fixture of 95_test_vectors.md). -/
def reads (cr : Nat → Half) : List BusAnswer :=
  ⟨0x08, 0⟩ :: ⟨0x40, 0⟩ :: (List.range 32).map fun k =>
    ⟨if k = 31 then 0x58 else 0x50,
      if k % 2 = 0 then (cr ((10 + k / 2) % 16)).extractLsb' 8 8 else (cr ((10 + k / 2) % 16)).extractLsb' 0 8⟩

/-- The answers of a tuner to a commit. -/
def writes : List BusAnswer := ⟨0x08, 0⟩ :: ⟨0x18, 0⟩ :: List.replicate 12 ⟨0x28, 0⟩

/-- A chip with one register set, the others 0. -/
def chip (r : Nat) (v : Half) : Nat → Half := fun k => if k = r then v else 0

/-- The state in which the tuner answers a refresh with these registers, then a commit. -/
def withChip (cr : Nat → Half) (s : State) : State := { s with answers := reads cr ++ writes }

/-- A refresh fails at the address byte (0x08, 0x48). -/
def noTuner (s : State) : State := answering [0x08, 0x48] s

/-- A tune in progress with so many polls made. -/
def tuning (polls : Nat) (s : State) : State := { s with seq := .tuning, polls := polls }

/-- What a next state shows; nothing for a stop. -/
def look {α : Type} (f : State → α) : Result → Option α
  | .next t => some (f t)
  | .fault _ => none
  | .refused _ => none

/-- The fault a stop names. -/
def stopsWith : Result → Option Fault
  | .next _ => none
  | .fault x => some x
  | .refused _ => none

/-- RESULT and ERR. -/
def outcome (t : State) : Word × Err := (t.result, t.err)

/-! ### The host port -/

/-- H1, H2, H3. -/
theorem test_reset_reads :
    hostRead 0x018 4 blank = .ok 0x000000F8 ∧ hostRead 0x020 4 blank = .ok 0xFFFFFFFF ∧
    hostRead 0x01C 4 blank = .ok 0 ∧ hostRead 0x1C0 4 blank = .ok 0 ∧ hostRead 0x2FC 4 blank = .ok 0 ∧
    hostRead 0x014 4 blank = .ok 0 := ⟨rfl, rfl, rfl, rfl, rfl, rfl⟩

/-- H4, H5, H7, H9. -/
theorem test_host_faults_and_reserved :
    hostRead 0x180 4 blank = .error .shadowUnwritten ∧ hostRead 0x100 4 blank = .error .xbufUnwritten ∧
    hostRead 0x002 4 blank = .error .hostAccessShape ∧ hostRead 0x004 2 blank = .error .hostAccessShape ∧
    hostRead 0x024 4 blank = .ok 0 ∧ hostRead 0xFFC 4 blank = .ok 0 := ⟨rfl, rfl, rfl, rfl, rfl, rfl⟩

/-- H6, H8. -/
theorem test_host_writes :
    look (fun t => t.xbuf[3]) (hostWrite 0x10C 4 0x12345678 blank) = some 0x78 ∧
    look statusWord (hostWrite 0x018 4 0xFFFFFFFF blank) = some 0xF8 := ⟨rfl, rfl⟩

/-- E12: a CMD write while a tune is in progress is dropped. E14: the operands are those of the CMD write. -/
theorem test_cmd_writes :
    look (fun t => (t.drop, t.pending)) (hostWrite 0x000 4 0x20 (tuning 0 blank)) = some (true, none) ∧
    look (fun t => (t.larg[0], t.arg[0])) (hostWrite 0x004 4 5 { blank with larg := #v[1, 0, 0, 0] }) = some (1, 5) := by
  decide

/-- `RDS_RESET` as the host issues it (30_encoding.md R101), and the two steps it takes. -/
theorem test_host_call :
    hostCall .rfSet [5, 0xC1F] =
      [.hostWrite 0x004 4 5, .hostWrite 0x008 4 0xC1F, .hostWrite 0x000 4 0x22, .hostWait] ∧
    look (fun t => (t.schedule, t.hostReads)) (hostWaitTurn { blank with pending := some 0x42 }) =
      some ([.controller, .hostWait], [(0x018, 0x1F8)]) := by decide

/-! ### Bus commands -/

/-- B1, B2. -/
theorem test_busStart :
    look (fun t => (outcome t, t.phase, t.bsc, t.history)) (exec .busStart (answering [0x08] blank)) =
      some ((1, .ok), .started, 0x08, [.start 0x08]) ∧
    look (fun t => (outcome t, t.phase)) (exec .busStart (answering [0x38] blank)) =
      some ((0, .busFailure), .held) := by decide

/-- B5, B6. -/
theorem test_busStop :
    look (fun t => (outcome t, t.bsc, t.history)) (exec .busStop { blank with bsc := 0x18 }) =
      some ((1, .ok), 0x18, []) ∧
    look (fun t => (outcome t, t.phase, t.bsc, t.history)) (exec .busStop (inPhase .held blank)) =
      some ((1, .ok), .idle, 0xF8, [.stop]) := by decide

/-- B7, B9. -/
theorem test_busAddr :
    look (fun t => (outcome t, t.phase, t.history))
      (exec .busAddr (withOperands 0x10 0 0 0 (answering [0x18] (inPhase .started blank)))) =
        some ((1, .ok), .masterTx, [.addr 0x20 0x18]) ∧
    look (fun t => (outcome t, t.phase))
      (exec .busAddr (withOperands 0x10 1 0 0 (answering [0x18] (inPhase .started blank)))) =
        some ((0, .busFailure), .held) := by decide

/-- E6, B10: the operand check comes before the phase check. -/
theorem test_busAddr_checks :
    look outcome (exec .busAddr (withOperands 0x80 0 0 0 blank)) = some (0, .illegalOperand) ∧
    look outcome (exec .busAddr (withOperands 0x10 0 0 0 blank)) = some (0, .illegalSequence) := by decide

/-- B12, B13. -/
theorem test_busSendByte :
    look (fun t => (outcome t, t.phase, t.history))
      (exec .busSendByte (withOperands 0xA5 0 0 0 (answering [0x28] (inPhase .masterTx blank)))) =
        some ((1, .ok), .masterTx, [.tx 0xA5 0x28]) ∧
    look (fun t => (outcome t, t.phase))
      (exec .busSendByte (withOperands 0xA5 0 0 0 (answering [0x30] (inPhase .masterTx blank)))) =
        some ((0, .busFailure), .held) := by decide

/-- XBUF holds AA BB CC (vectors B15 to B17). -/
def filled : State :=
  { blank with xbuf := ((blank.xbuf.set 0 0xAA).set 1 0xBB).set 2 0xCC,
               xvalid := ((blank.xvalid.set 0 true).set 1 true).set 2 true }

/-- B16, B19. -/
theorem test_busSend :
    look (fun t => (outcome t, t.phase, t.history))
      (exec .busSend (withOperands 3 0 0 0 (answering [0x28, 0x30] (inPhase .masterTx filled)))) =
        some ((1, .busFailure), .held, [.tx 0xAA 0x28, .tx 0xBB 0x30]) ∧
    stopsWith (exec .busSend (withOperands 4 0 0 0 (inPhase .masterTx filled))) = some .xbufUnwritten := by decide

/-- B20, B22. -/
theorem test_busRecv :
    look (fun t => (outcome t, t.phase, t.history)) (exec .busRecv (withOperands 0 0 0 0 (inPhase .masterRx blank))) =
      some ((0, .ok), .idle, [.stop]) ∧
    look (fun t => (outcome t, t.xbuf[0], t.xbuf[1], t.history))
      (exec .busRecv (withOperands 3 0 0 0
        { filled with phase := .masterRx, answers := [⟨0x50, 0x11⟩, ⟨0x58, 0x22⟩] })) =
      some ((1, .busFailure), 0x11, 0xBB, [.rx true 0x11 0x50, .rx true 0x22 0x58, .stop]) := by decide

/-- B24, B26. -/
theorem test_busWrite :
    look (fun t => (outcome t, t.history)) (exec .busWrite (withOperands 0x10 2 0 0 (answering [0x00] filled))) =
      some ((0, .busFailure), [.start 0x00, .stop]) ∧
    look (fun t => (outcome t, t.bsc, t.history))
      (exec .busWrite (withOperands 0x10 2 0 0 (answering [0x08, 0x18, 0x28, 0x28] filled))) =
      some ((2, .ok), 0xF8, [.start 0x08, .addr 0x20 0x18, .tx 0xAA 0x28, .tx 0xBB 0x28, .stop]) := by decide

/-- B29, B30. -/
theorem test_busRead :
    look (fun t => (outcome t, t.xbuf[0], t.xbuf[1], t.history))
      (exec .busRead (withOperands 0x10 2 0 0
        { blank with answers := [⟨0x08, 0⟩, ⟨0x40, 0⟩, ⟨0x50, 0xAB⟩, ⟨0x58, 0xCD⟩] })) =
      some ((2, .ok), 0xAB, 0xCD, [.start 0x08, .addr 0x21 0x40, .rx true 0xAB 0x50, .rx false 0xCD 0x58, .stop]) ∧
    look (fun t => (outcome t, t.history)) (exec .busRead (withOperands 0x10 2 0 0 (noTuner blank))) =
      some ((0, .busFailure), [.start 0x08, .addr 0x21 0x48, .stop]) := by decide

/-! ### Register-file commands -/

/-- F1, F2. -/
theorem test_rfRefresh :
    look (fun t => (outcome t, t.shadow.toList, t.valid)) (exec .rfRefresh (withChip (fun r => BitVec.ofNat 16 (0x0101 * r)) blank)) =
      some ((1, .ok), (List.range 16).map (fun r => BitVec.ofNat 16 (0x0101 * r)), .replicate 16 true) ∧
    look (fun t => (outcome t, t.valid))
      (exec .rfRefresh { blank with answers := (reads (chip 0 1)).take 33 ++ [⟨0x50, 0⟩] }) =
      some ((0, .busFailure), .replicate 16 false) := by decide +kernel

/-- F8, F7. -/
theorem test_rfCommit :
    look (fun t => (outcome t, t.history))
      (exec .rfCommit { blank with
        shadow := (((((blank.shadow.set 2 0x4001).set 3 0x8066).set 4 0x1000).set 5 0x0C1F).set 6 0).set 7 0x8100,
        valid := .replicate 16 true, answers := writes }) =
      some ((1, .ok), .start 0x08 :: .addr 0x20 0x18 ::
        [0x40, 0x01, 0x80, 0x66, 0x10, 0x00, 0x0C, 0x1F, 0x00, 0x00, 0x81, 0x00].map (fun b => BusEvent.tx b 0x28)
        ++ [.stop]) ∧
    stopsWith (exec .rfCommit { blank with valid := (Vector.replicate 16 true).set 6 false }) = some .shadowUnwritten := by
  decide

/-- F6, F5. -/
theorem test_rfSet :
    look (fun t => (outcome t, t.shadow[7], t.valid[7], t.phase)) (exec .rfSet (withOperands 7 0x8100 0 0 (inPhase .held blank))) =
      some ((1, .ok), 0x8100, true, .held) ∧
    look outcome (exec .rfSet (withOperands 1 0 0 0 blank)) = some (0, .illegalOperand) := by decide

/-! ### Tuning commands -/

/-- The channel table of 95_test_vectors.md L2. -/
theorem test_channels :
    channelOf 8750 10800 10 10115 = 136 ∧ channelOf 8750 10800 10 (-5) = 0 ∧ channelOf 8750 10800 10 0x7FFFFFFF = 205 ∧
    channelOf 8750 10800 20 10800 = 102 ∧ frequencyOf 102 20 8750 = 10790 ∧ channelOf 7600 10800 5 10800 = 640 := by decide

/-- T1, its setup step; E11. -/
theorem test_tuneSetFreq :
    look (fun t => (t.seq, t.polls, t.shadow[3])) (exec .tuneSetFreq (withOperands 10110 0 0 0 (withChip (chip 5 0x0C1F) (configured 0x0C1F)))) =
      some (.tuning, 0, 0x8088) ∧
    look (fun t => (outcome t, t.history)) (exec .tuneSetFreq (withOperands 10110 0 0 0 (configured 0x0C3F))) =
      some ((0, .illegalConfig), []) := by decide +kernel

/-- T1, its second poll: complete. T2, its third poll: the bound is reached. -/
theorem test_polls :
    look (fun t => (outcome t, t.seq, t.shadow[3], t.pty))
      (step (tuning 1 { withChip (fun r => if r = 10 then 0x4000 else if r = 3 then 0x8088 else 0) (configured 0x0C1F) with
        pty := 5 })) = some ((1, .ok), .idle, 0x0088, -1) ∧
    look (fun t => (outcome t, t.seq, t.polls, t.shadow[3], t.pty))
      (step (tuning 2 { withChip (chip 3 0x8088) (configured 0x0C1F) with pty := 5 })) =
        some ((0, .tuneTimeout), .idle, 3, 0x0088, 5) := by decide +kernel

/-- T8, X4. -/
theorem test_tuneGetFreq :
    look outcome (exec .tuneGetFreq (withChip (fun r => if r = 5 then 0x0C6F else if r = 11 then 0x03FF else 0) blank)) =
      some (12715, .ok) ∧
    look (fun t => (outcome t, t.shadow[5])) (exec .tuneGetFreq (withChip (chip 5 0x0C3F) blank)) =
      some ((0, .illegalConfig), 0x0C3F) := by decide +kernel

/-- T11, T12. -/
theorem test_tuneIsReady :
    look (fun t => (outcome t, t.answers)) (exec .tuneIsReady (withChip (chip 3 0x8088) blank)) =
      some ((0, .ok), writes) ∧
    look (fun t => (outcome t, t.shadow[3]))
      (exec .tuneIsReady (withChip (fun r => if r = 10 then 0x4000 else if r = 3 then 0x8088 else 0) blank)) =
      some ((1, .ok), 0x0088) := by decide +kernel

/-- T9, T10. -/
theorem test_band_limits :
    look outcome (exec .tuneGetMin (configured 0x0C1F)) = some (8750, .ok) ∧
    look outcome (exec .tuneGetMax (configured 0x0C1F)) = some (10800, .ok) ∧
    look outcome (exec .tuneGetMin (configured 0x0CAF)) = some (7600, .ok) ∧
    stopsWith (exec .tuneGetMax blank) = some .shadowUnwritten := by decide

/-- T14, T15. -/
theorem test_tunerIsConnected :
    look outcome (exec .tunerIsConnected (withChip (chip 0 0x1242) blank)) = some (1, .ok) ∧
    look outcome (exec .tunerIsConnected (withChip (chip 1 0x1242) blank)) = some (0, .ok) := by decide +kernel

/-- T17, T18. -/
theorem test_tunerInit :
    look (fun t => (outcome t, t.readyEdge, t.pty))
      (exec .tunerInit (withChip (chip 0 0) { blank with readyEdge := .armedForFall, pty := 5 })) =
        some ((1, .ok), .idle, -1) ∧
    look (fun t => (outcome t, t.readyEdge, t.pty))
      (exec .tunerInit (noTuner { blank with readyEdge := .armedForFall, pty := 5 })) =
        some ((0, .busFailure), .idle, -1) := by decide +kernel

/-- T19, T20. -/
theorem test_status_queries :
    look outcome (exec .tunerIsTuned (withChip (chip 10 0x4123) blank)) = some (1, .ok) ∧
    look outcome (exec .tunerIsStereo (withChip (chip 10 0x4123) blank)) = some (1, .ok) ∧
    look outcome (exec .tunerGetRssi (withChip (chip 10 0x00FF) blank)) = some (255, .ok) ∧
    look outcome (exec .tunerIsTuned (withChip (chip 10 0xBEFF) blank)) = some (0, .ok) ∧
    look outcome (exec .tunerIsStereo (withChip (chip 10 0xFEFF) blank)) = some (0, .ok) := by decide +kernel

/-- T21, T23. -/
theorem test_mono_and_softmute :
    look (fun t => (outcome t, t.shadow[2])) (exec .tunerSetMono (withOperands 1 0 0 0 (withChip (chip 2 0x4001) blank))) =
      some ((1, .ok), 0x6001) ∧
    look (fun t => (outcome t, t.shadow[2])) (exec .tunerSetSoftmute (withOperands 1 0 0 0 (withChip (chip 2 0xC001) blank))) =
      some ((1, .ok), 0x4001) ∧
    look (fun t => (outcome t, t.shadow[2])) (exec .tunerSetSoftmute (withOperands 0 0 0 0 (withChip (chip 2 0x4001) blank))) =
      some ((1, .ok), 0xC001) := by decide +kernel

/-- T24, T25, T26. -/
theorem test_sleep_and_wakeup :
    look (fun t => (outcome t, t.shadow[2], t.pty)) (exec .tunerSleep (withChip (chip 2 0x4001) { blank with pty := 5 })) =
      some ((1, .ok), 0x4041, 5) ∧
    look (fun t => (outcome t, t.shadow[2], t.pty)) (exec .tunerWakeup (withChip (chip 2 0x4041) { blank with pty := 5 })) =
      some ((1, .ok), 0x4001, -1) ∧
    look (fun t => (outcome t, t.pty))
      (exec .tunerWakeup { blank with pty := 5, answers := reads (chip 2 0x4041) ++ [⟨0x08, 0⟩, ⟨0x20, 0⟩] }) =
      some ((0, .busFailure), 5) := by decide +kernel

/-- T27. -/
theorem test_seeks :
    look (fun t => (outcome t, t.phase)) (exec .tuneSeekUp (inPhase .held blank)) = some ((0, .ok), .held) ∧
    look (fun t => (outcome t, t.phase)) (exec .tuneSeekDown (inPhase .held blank)) = some ((0, .ok), .held) := by decide

/-! ### RDS commands -/

/-- D16, D18. -/
theorem test_rdsPoll :
    look (fun t => (outcome t, t.readyEdge, t.ps[4], t.pty))
      (exec .rdsPoll (withChip (fun r => if r = 10 then 0x8000 else if r = 13 then 0x0142 else if r = 15 then 0x4142 else 0)
        blank)) = some ((1, .ok), .armedForFall, 0x41, 10) ∧
    look (fun t => (outcome t, t.readyEdge, t.pty))
      (exec .rdsPoll (withChip (chip 10 0x8000) { blank with readyEdge := .armedForFall })) =
        some ((0, .ok), .armedForFall, -1) := by decide +kernel

/-- D3, D5 (its flag change publishes the text of D4). -/
theorem test_rdsDecode :
    look (fun t => (outcome t, t.ps[0], t.ps[1], t.pty)) (exec .rdsDecode (withOperands 0 0x00A0 0 0x0D41 blank)) =
      some ((1, .ok), 0x0D, 0x41, 5) ∧
    look (fun t => (t.rt[1], t.wip[1], t.wip[6], t.wip[7], t.textAB))
      (exec .rdsDecode (withOperands 0 0x2011 0x5859 0x5A0D { blank with wip := blank.wip.set 1 0x41 })) =
      some (0x41, 0, 0x5A, 0x00, true) := by decide

/-- D6, D9. -/
theorem test_rdsDecode_groups :
    look (fun t => (t.wip[30], t.wip[31])) (exec .rdsDecode (withOperands 0 0x280F 0 0x0D21 blank)) = some (0x00, 0x21) ∧
    look outcome (exec .rdsDecode (withOperands 0 0x1000 1 1 blank)) = some (0, .ok) := by decide

/-- D12. -/
theorem test_rdsReset :
    look (fun t => (outcome t, t.pty, t.readyEdge)) (exec .rdsReset { blank with pty := 5, readyEdge := .armedForFall }) =
      some ((1, .ok), -1, .armedForFall) := by decide

/-- The decoder's read accessors (R224): the name with its terminator, the published text, an empty date. -/
theorem test_accessors :
    stationName blank = List.replicate 9 0 ∧ (radioText blank).length = 64 ∧ dateAndTime blank = [] := by decide

/-! ### Fetching -/

/-- E1 to E4 through a step, X1; and a command placed as the first instruction after reset. -/
theorem test_withFetchWord :
    look (fun t => (outcome t, t.pending)) (step (State.withFetchWord blank 32 0x120)) = some ((0, .illegalCommand), none) ∧
    look outcome (step (State.withFetchWord (inPhase .held (withOperands 0x80 0 0 0 blank)) 32 0x112)) =
      some (0, .illegalCommand) ∧
    look (fun t => (outcome t, t.pending)) (step (State.withFetchWord blank 8 0x42)) = some ((1, .ok), none) := by decide

/-! ### Witnesses: for each obligation with hypotheses, states and operands that meet them, clause by clause

Each theorem is named after its obligation. Where a clause takes a result by an equation such as `refresh s = (true, t)`, the
witness gives the state `s` and shows that some `t` is that result. -/

theorem refresh_answers {s : State} {b : Bool} (h : (refresh s).1 = b) : ∃ t, refresh s = (b, t) :=
  ⟨(refresh s).2, by rw [← h]⟩

theorem refresh_shows {s : State} {b : Bool} {P : State → Prop} (h : (refresh s).1 = b) (h' : P (refresh s).2) :
    ∃ t, refresh s = (b, t) ∧ P t := ⟨(refresh s).2, by rw [← h], h'⟩

theorem hyp_IllegalWordsRaiseIllegalCommand :
    (blank.seq = .idle ∧ nextTurn blank = .controller) ∧
    (∃ w, { blank with pending := some w }.pending = some 0x43 ∧ ∃ e, decode w = .error e) ∧
    (∃ e, decode 0x100 = .error e) ∧ (∃ e, decode 0x0F = .error e) ∧ (∃ e, decode 0x18 = .error e) ∧
    (∃ e, decode 0x1F = .error e) ∧ (∃ e, decode 0x23 = .error e) ∧ (∃ e, decode 0x2F = .error e) ∧
    (∃ e, decode 0xFF = .error e) :=
  ⟨⟨rfl, rfl⟩, ⟨0x43, rfl, _, rfl⟩, ⟨_, rfl⟩, ⟨_, rfl⟩, ⟨_, rfl⟩, ⟨_, rfl⟩, ⟨_, rfl⟩, ⟨_, rfl⟩, ⟨_, rfl⟩⟩

theorem hyp_StepRunsDecodedCommand :
    ∃ s : State, s.seq = .idle ∧ s.pending = some 0x42 ∧ nextTurn s = .controller ∧ decode 0x42 = .ok .rdsReset :=
  ⟨{ blank with pending := some 0x42 }, rfl, rfl, rfl, rfl⟩

/-- Clauses: nothing pending; a host read that answers; a host read that faults; a host write. -/
theorem hyp_OtherTurnsOfAStep :
    (blank.seq = .idle ∧ blank.pending = none ∧ nextTurn blank = .controller) ∧
    (nextTurn { blank with schedule := [.hostRead 0x018 4] } = .hostRead 0x018 4 ∧ hostRead 0x018 4 blank = .ok 0xF8) ∧
    (nextTurn { blank with schedule := [.hostRead 0x180 4] } = .hostRead 0x180 4 ∧
      hostRead 0x180 4 blank = .error .shadowUnwritten) ∧
    nextTurn { blank with schedule := [.hostWrite 0x000 4 0x42] } = .hostWrite 0x000 4 0x42 ∧
    (nextTurn { blank with schedule := [.hostWait] } = .hostWait ∧ hostRead 0x018 4 blank = .ok 0x0F8 ∧
      (0x0F8 : Word).getLsbD 8 = false) ∧
    (nextTurn { tuning 0 blank with schedule := [.hostWait] } = .hostWait ∧
      hostRead 0x018 4 (tuning 0 blank) = .ok 0x1F8 ∧ (0x1F8 : Word).getLsbD 8 = true) :=
  ⟨⟨rfl, rfl, rfl⟩, ⟨rfl, rfl⟩, ⟨rfl, rfl⟩, rfl, ⟨rfl, rfl, rfl⟩, ⟨rfl, rfl, rfl⟩⟩

/-- Clauses: the start fails (0x38); the address byte is not acknowledged (0x48); both are. -/
theorem hyp_WriteSeqAlwaysStops :
    startOk params.sc (nextAnswer .start (answering [0x38] blank)).sc = false ∧
    (startOk params.sc (nextAnswer .start (noTuner blank)).sc = true ∧
      (nextAnswer (.addr (0x10#7 ++ 0#1)) (busStart (noTuner blank)).2).sc ≠ params.sc.mtSlaAck) ∧
    (startOk params.sc (nextAnswer .start (answering [0x08, 0x18, 0x28] blank)).sc = true ∧
      (nextAnswer (.addr (0x10#7 ++ 0#1)) (busStart (answering [0x08, 0x18, 0x28] blank)).2).sc = params.sc.mtSlaAck) := by
  decide +kernel

/-- Clauses: the start fails (0x38); the address byte is not acknowledged (0x48); both are. -/
theorem hyp_ReadSeqAlwaysStops :
    startOk params.sc (nextAnswer .start (answering [0x38] blank)).sc = false ∧
    (startOk params.sc (nextAnswer .start (noTuner blank)).sc = true ∧
      (nextAnswer (.addr (0x10#7 ++ 1#1)) (busStart (noTuner blank)).2).sc ≠ params.sc.mrSlaAck) ∧
    (startOk params.sc (nextAnswer .start (answering [0x08, 0x40, 0x58] blank)).sc = true ∧
      (nextAnswer (.addr (0x10#7 ++ 1#1)) (busStart (answering [0x08, 0x40, 0x58] blank)).2).sc = params.sc.mrSlaAck) := by
  decide +kernel

/-- The two states those statements name are the ones after the start and after the address byte. -/
theorem test_transaction_states (s : State) (b : Byte) :
    (busStart s).2 = { s with answers := s.answers.drop 1, draws := s.draws + 1,
                              history := s.history ++ [.start (nextAnswer .start s).sc],
                              bsc := (nextAnswer .start s).sc } ∧
    (busAddr b (busStart s).2).2.history =
      s.history ++ [.start (nextAnswer .start s).sc, .addr b (nextAnswer (.addr b) (busStart s).2).sc] := by
  simp [busStart, busAddr, recordEvent]

/-- Clauses: not busy; busy with a pending command; busy with a tune. -/
theorem hyp_CmdWriteIsAcceptedOrDropped :
    (blank.pending = none ∧ blank.seq = .idle) ∧ { blank with pending := some 0x42 }.pending ≠ none ∧
    (tuning 0 blank).seq = .tuning := ⟨⟨rfl, rfl⟩, by decide +kernel, rfl⟩

/-- Clauses: a width of 2; an address with bit 1 set; the ends of the reserved windows and of the read-only ones. -/
theorem hyp_HostAccessShapeAndReservedAddresses :
    (2 : Nat) ≠ 4 ∧ (0x002#12).extractLsb' 0 2 ≠ 0 ∧ (0x024#12).extractLsb' 0 2 = 0 ∧
    (0x024 ≤ (0x024#12).toNat ∧ (0x0FC#12).toNat ≤ 0x0FC ∧ (0x0FC#12).extractLsb' 0 2 = 0) ∧
    (0x1E0 ≤ (0x1E0#12).toNat ∧ (0x1FC#12).toNat ≤ 0x1FC ∧ (0x1FC#12).extractLsb' 0 2 = 0) ∧
    (0x300 ≤ (0x300#12).toNat ∧ 0x300 ≤ (0xFFC#12).toNat ∧ (0xFFC#12).extractLsb' 0 2 = 0) ∧
    (0x014 ≤ (0x014#12).toNat ∧ (0x014#12).extractLsb' 0 2 = 0 ∧ 0x180 ≤ (0x180#12).toNat) := by decide +kernel

/-- Clauses: reserved addresses (as above); a host read that goes on. -/
theorem hyp_HostReadReturnsTheRegister :
    (0x024#12).extractLsb' 0 2 = 0 ∧ (0x024#12).toNat ≤ 0x0FC ∧ ∃ t, hostReadTurn 0x018 4 blank = .next t :=
  ⟨by decide +kernel, by decide +kernel, _, rfl⟩

/-- Clauses: PTY -1; PTY 0 and 31. -/
theorem hyp_StatusEdgeAndPtyregViews :
    blank.pty = -1 ∧ { blank with pty := 0 }.pty.toNat < 32 ∧ { blank with pty := 31 }.pty.toNat < 32 := by decide +kernel

/-- A command without operands. -/
theorem hyp_OperandFormsAreLegalWhen :
    Instr.rdsReset ∉ [Instr.busAddr, .busSendByte, .busSend, .busRecv, .busWrite, .busRead, .rfSet, .tuneSetFreq,
      .tunerSetMono, .tunerSetSoftmute, .rdsDecode] := by decide

theorem hyp_IllegalOperandHasNoOtherEffect :
    ∃ o ∈ operandForms .busAddr, formLegal o.2 (withOperands 0x80 0 0 0 blank).larg[o.1] = false :=
  ⟨(0, .slave), by decide +kernel, by decide +kernel⟩

/-- One command for each line of the phase table. -/
theorem hyp_WrongPhaseRaisesIllegalSequence :
    (operandsLegal .busStart (inPhase .held blank) = true ∧ (inPhase .held blank).phase = .held) ∧
    (operandsLegal .busAddr blank = true ∧ blank.phase ≠ .started) ∧
    (operandsLegal .busSend (withOperands 32 0 0 0 blank) = true ∧ blank.phase ≠ .masterTx) ∧
    (operandsLegal .busRecv blank = true ∧ blank.phase ≠ .masterRx) ∧
    (operandsLegal .rdsPoll (inPhase .started blank) = true ∧ (inPhase .started blank).phase ≠ .idle) := by decide +kernel

theorem hyp_BusEventsAreRecorded :
    nextAnswer .start (answering [0x08] blank) = ⟨0x08, 0⟩ ∧ nextAnswer (.addr 0x20) (answering [0x20] blank) = ⟨0x20, 0⟩ ∧
    nextAnswer (.tx 0) (answering [0x30] blank) = ⟨0x30, 0⟩ ∧
    nextAnswer (.rx true) { blank with answers := [⟨0x50, 0x77⟩] } = ⟨0x50, 0x77⟩ := by decide +kernel

/-- Clauses: Held; any other phase. -/
theorem hyp_BusStartSendsAStart :
    (inPhase .held blank).phase = .held ∧ blank.phase ≠ .held ∧
    (0x08 : Byte) = (nextAnswer .start (answering [0x08] blank)).sc := by decide +kernel

/-- Clauses: Idle; any other phase. -/
theorem hyp_BusStopReleasesTheBus : blank.phase = .idle ∧ (inPhase .held blank).phase ≠ .idle := by decide +kernel

/-- Clauses: each operand one above its range; another phase; the largest operands in Started. -/
theorem hyp_BusAddrSendsTheAddressByte :
    0x7F < (withOperands 0x80 0 0 0 blank).larg[0].toNat ∧ 1 < (withOperands 0 2 0 0 blank).larg[1].toNat ∧
    ((withOperands 0x7F 1 0 0 blank).larg[0].toNat ≤ 0x7F ∧ (withOperands 0x7F 1 0 0 blank).larg[1].toNat ≤ 1 ∧
      blank.phase ≠ .started) ∧
    ((inPhase .started (withOperands 0x7F 1 0 0 blank)).phase = .started ∧
      (0xFF : Byte) = BitVec.ofNat 8 (2 * (withOperands 0x7F 1 0 0 blank).larg[0].toNat +
        (withOperands 0x7F 1 0 0 blank).larg[1].toNat) ∧
      (0x40 : Byte) = (nextAnswer (.addr 0xFF) (answering [0x40] blank)).sc) := by decide +kernel

/-- Clauses: an operand above a byte; another phase; the largest byte in MasterTx. -/
theorem hyp_BusSendByteSendsTheOperand :
    0xFF < (withOperands 0x100 0 0 0 blank).larg[0].toNat ∧
    ((withOperands 0xFF 0 0 0 blank).larg[0].toNat ≤ 0xFF ∧ blank.phase ≠ .masterTx) ∧
    ((inPhase .masterTx (withOperands 0xFF 0 0 0 blank)).phase = .masterTx ∧
      (0xFF : Byte) = (withOperands 0xFF 0 0 0 blank).larg[0].setWidth 8 ∧
      (0x28 : Byte) = (nextAnswer (.tx 0xFF) (answering [0x28] blank)).sc) := by decide +kernel

/-- XBUF wholly written. -/
def full : State := { blank with xvalid := .replicate 32 true }

/-- Clauses: a count of 33; another phase; a byte not written; 32 bytes, all written. -/
theorem hyp_BusSendSendsTheBuffer :
    32 < (withOperands 33 0 0 0 blank).larg[0].toNat ∧
    ((withOperands 32 0 0 0 blank).larg[0].toNat ≤ 32 ∧ blank.phase ≠ .masterTx) ∧
    (∃ i < 4, (withOperands 4 0 0 0 (inPhase .masterTx filled)).xvalid[i]? = some false) ∧
    ((inPhase .masterTx full).phase = .masterTx ∧ ∀ i < 32, (withOperands 32 0 0 0 full).xvalid[i]? = some true) := by
  decide +kernel

/-- Clauses: a count of 33; another phase; 0 and 32 bytes in MasterRx. -/
theorem hyp_BusRecvFillsTheBuffer :
    32 < (withOperands 33 0 0 0 blank).larg[0].toNat ∧
    ((withOperands 32 0 0 0 blank).larg[0].toNat ≤ 32 ∧ blank.phase ≠ .masterRx) ∧
    ((withOperands 0 0 0 0 (inPhase .masterRx blank)).larg[0].toNat ≤ 32 ∧ (inPhase .masterRx blank).phase = .masterRx) := by
  decide +kernel

/-- Clauses: each operand one above its range; another phase; a byte not written; 32 bytes, all written. -/
theorem hyp_BusWriteRunsAWriteTransaction :
    (0x7F < (withOperands 0x80 0 0 0 blank).larg[0].toNat ∧ 32 < (withOperands 0 33 0 0 blank).larg[1].toNat) ∧
    ((withOperands 0x7F 32 0 0 blank).larg[0].toNat ≤ 0x7F ∧ (withOperands 0x7F 32 0 0 blank).larg[1].toNat ≤ 32 ∧
      (inPhase .started blank).phase ≠ .idle) ∧
    (filled.phase = .idle ∧ ∃ i < 4, (withOperands 0x7F 4 0 0 filled).xvalid[i]? = some false) ∧
    (full.phase = .idle ∧ ∀ i < 32, (withOperands 0x7F 32 0 0 full).xvalid[i]? = some true) := by decide +kernel

/-- Clauses: each operand one above its range; another phase; the largest operands in Idle. -/
theorem hyp_BusReadRunsAReadTransaction :
    (0x7F < (withOperands 0x80 0 0 0 blank).larg[0].toNat ∧ 32 < (withOperands 0 33 0 0 blank).larg[1].toNat) ∧
    ((withOperands 0x7F 32 0 0 blank).larg[0].toNat ≤ 0x7F ∧ (withOperands 0x7F 32 0 0 blank).larg[1].toNat ≤ 32 ∧
      (inPhase .started blank).phase ≠ .idle) ∧ blank.phase = .idle := by decide +kernel

/-- Clauses: all 32 bytes; 31 bytes. -/
theorem hyp_RefreshDeinterleavesTheBurst :
    ((readSeq 0x10 32 (withChip (chip 0 1) blank)).1.getD []).length = 32 ∧
    ((readSeq 0x10 32 { blank with answers := (reads (chip 0 1)).take 33 ++ [⟨0x50, 0⟩] }).1.getD []).length ≠ 32 := by
  decide +kernel

theorem hyp_AnsweredRefreshFillsTheShadow :
    ∃ (s : State) (bytes : List Byte),
      startOk s.params.sc 0x08 = true ∧ (0x40 : Byte) = s.params.sc.mrSlaAck ∧ bytes.length = 32 ∧
      s.answers = ⟨0x08, 0⟩ :: ⟨0x40, 0⟩ ::
        bytes.mapIdx (fun i x => ⟨rxCode s.params.sc (decide (i < 31)), x⟩) ++ [⟨0x38, 0⟩] :=
  ⟨{ blank with answers := ⟨0x08, 0⟩ :: ⟨0x40, 0⟩ ::
      (List.range 32).mapIdx (fun i x => ⟨if i < 31 then 0x50 else 0x58, BitVec.ofNat 8 x⟩) ++ [⟨0x38, 0⟩] },
    (List.range 32).map (BitVec.ofNat 8), by decide +kernel, by decide +kernel, by decide +kernel, by decide +kernel⟩

/-- Clauses: register 2, and register 7, never written; registers 2 to 7 written and no other. -/
theorem hyp_CommitSendsRegistersTwoToSeven :
    (∃ i, 2 ≤ i ∧ i ≤ 7 ∧ blank.valid[i]? = some false) ∧
    (∃ i, 2 ≤ i ∧ i ≤ 7 ∧ { blank with valid := (Vector.replicate 16 true).set 7 false }.valid[i]? = some false) ∧
    (∀ i, 2 ≤ i → i ≤ 7 → (configured 0x0C1F).valid[i]? = some true) :=
  ⟨⟨2, by decide +kernel⟩, ⟨7, by decide +kernel⟩, fun i _ h => by interval_cases i <;> rfl⟩

/-- Clauses: another phase; a refresh that succeeds, and one that fails; an unwritten register; all written. -/
theorem hyp_RfRefreshAndRfCommitReport :
    (inPhase .held blank).phase ≠ .idle ∧ (withChip (chip 0 1) blank).phase = .idle ∧
    (∃ t, refresh (withChip (chip 0 1) blank) = (true, t)) ∧ (∃ t, refresh (noTuner blank) = (false, t)) ∧
    (∃ i, 2 ≤ i ∧ i ≤ 7 ∧ blank.valid[i]? = some false) ∧
    (∀ i, 2 ≤ i → i ≤ 7 → (configured 0x0C1F).valid[i]? = some true) :=
  ⟨by decide +kernel, rfl, refresh_answers (by decide +kernel), refresh_answers (by decide +kernel), ⟨2, by decide +kernel⟩,
    fun i _ h => by interval_cases i <;> rfl⟩

/-- Clauses: index 1 and 8, value 0x10000; index 2 and 7 with the largest value. -/
theorem hyp_RfSetWritesOneConfigurationRegister :
    (withOperands 1 0 0 0 blank).larg[0].toNat < 2 ∧ 7 < (withOperands 8 0 0 0 blank).larg[0].toNat ∧
    0xFFFF < (withOperands 2 0x10000 0 0 blank).larg[1].toNat ∧
    (withOperands 2 0xFFFF 0 0 blank).larg[0].toNat = (2 : Fin 16).val ∧
    (withOperands 7 0xFFFF 0 0 blank).larg[0].toNat = (7 : Fin 16).val ∧
    (withOperands 7 0xFFFF 0 0 blank).larg[1].toNat ≤ 0xFFFF := by decide +kernel

/-- Clauses: the highest bit; the highest place of the channel field. -/
theorem hyp_FieldUpdatesCarryOtherBits : (15 : Nat) < 16 ∧ 6 + 10 ≤ 16 := by decide +kernel

theorem hyp_ParametersAfterReset : ∃ p : Params, p = State.reset.params := ⟨_, rfl⟩

/-- Clauses: below the band, above it, and both ends of it; the default tables with each spacing code in use. -/
theorem hyp_ChannelOfAFrequency :
    spaceCode (configured 0x0C0F) = 0 ∧ spaceCode (configured 0x0C1F) = 1 ∧ spaceCode (configured 0x0CEF) = 2 ∧
    spaceCode (configured 0x0C3F) = 3 ∧
    8750 ≤ 10800 ∧ 1 ≤ 10 ∧ (8749 : Int) < (8750 : Nat) ∧ ((10800 : Nat) : Int) < 10801 ∧
    ((8750 : Nat) : Int) ≤ 8750 ∧ (10800 : Int) ≤ (10800 : Nat) ∧
    (configured 0x0C1F).params.bandMin = State.reset.params.bandMin ∧
    (configured 0x0C1F).params.bandMax = State.reset.params.bandMax ∧
    (configured 0x0C1F).params.spacing = State.reset.params.spacing ∧
    channelSpacing (configured 0x0C0F) = some 20 ∧ channelSpacing (configured 0x0C1F) = some 10 ∧
    channelSpacing (configured 0x0CEF) = some 5 :=
  ⟨rfl, rfl, rfl, rfl, by decide +kernel, by decide +kernel, by decide +kernel, by decide +kernel, by decide +kernel,
    by decide +kernel, rfl, rfl, rfl, rfl, rfl, rfl⟩

/-- A machine whose BAND_MAX(0) puts channel 1024 in reach (spacing 10: 8750 + 10240 = 18990). -/
def wideBand (f : Word) : State :=
  withOperands f 0 0 0 { configured 0x0C1F with params := { params with bandMax := ⟨18990, 10800, 10800, 10800⟩ } }

/-- Clauses: another phase; register 5 not written; spacing code 3; channel 1024; channel 1023 with a refresh that fails; a
refresh that succeeds. -/
theorem hyp_TuneSetFreqRequestsAChannel :
    (inPhase .held blank).phase ≠ .idle ∧ (blank.phase = .idle ∧ blank.valid[5] = false) ∧
    ((configured 0x0C3F).phase = .idle ∧ (configured 0x0C3F).valid[5] = true ∧ spaceCode (configured 0x0C3F) = 3) ∧
    ((wideBand 18990).phase = .idle ∧ (wideBand 18990).valid[5] = true ∧ channelSpacing (wideBand 18990) = some 10 ∧
      1024 = channelOf (bandMinimum (wideBand 18990)) (bandMaximum (wideBand 18990)) 10 (wideBand 18990).larg[0].toInt) ∧
    (1023 = channelOf (bandMinimum (wideBand 18989)) (bandMaximum (wideBand 18989)) 10 (wideBand 18989).larg[0].toInt ∧
      ∃ t, refresh (noTuner (wideBand 18989)) = (false, t)) ∧
    ∃ t, refresh (withChip (chip 5 0x0C1F) (configured 0x0C1F)) = (true, t) :=
  ⟨by decide +kernel, by decide +kernel, by decide +kernel, by decide +kernel, ⟨by decide +kernel, refresh_answers (by decide +kernel)⟩,
    refresh_answers (by decide +kernel)⟩

/-- Clauses: not complete, below the bound of 3 and at it; a failed refresh; complete. -/
theorem hyp_PollOfATuneInProgress :
    (tuning 1 (configured 0)).seq = .tuning ∧ nextTurn (tuning 1 (configured 0)) = .controller ∧
    (∃ t, refresh (withChip (chip 3 0x8088) (tuning 1 (configured 0))) = (true, t) ∧
      t.shadow[10].getLsbD params.fields.stc = false) ∧
    (∃ t, refresh (noTuner (tuning 1 (configured 0))) = (false, t)) ∧
    (∃ t, refresh (withChip (chip 10 0x4000) (tuning 1 (configured 0))) = (true, t) ∧
      t.shadow[10].getLsbD params.fields.stc = true) ∧
    (params.maxTunePolls = some 3 ∧ (tuning 1 (configured 0)).polls + 1 < 3 ∧ 3 ≤ (tuning 2 (configured 0)).polls + 1 ∧
      (tuning 2 (configured 0)).valid = .replicate 16 true) :=
  ⟨rfl, rfl, refresh_shows (by decide +kernel) (by decide +kernel),
    refresh_answers (by decide +kernel),
    refresh_shows (by decide +kernel) (by decide +kernel), by decide +kernel⟩

theorem hyp_UnansweredTuneNeverEnds :
    ∃ s : State, s.seq = .tuning ∧ s.schedule = [] ∧ s.params.maxTunePolls = none ∧
      startOk s.params.sc 0x38 = false ∧ s.answers = List.replicate 5 ⟨0x38, 0⟩ ++ [] :=
  ⟨{ tuning 0 (configured 0x0C1F) with
      params := { params with maxTunePolls := none }, answers := List.replicate 5 ⟨0x38, 0⟩ },
    rfl, rfl, rfl, by decide +kernel, by decide +kernel⟩

/-- Clauses: another phase; a refresh that fails; spacing code 3 in the fresh register 5; another spacing code. -/
theorem hyp_TuneGetFreqReportsTheChipsChannel :
    (inPhase .held blank).phase ≠ .idle ∧ blank.phase = .idle ∧ (∃ t, refresh (noTuner blank) = (false, t)) ∧
    (∃ t, refresh (withChip (chip 5 0x0C3F) blank) = (true, t) ∧ spaceCode t = 3) ∧
    (∃ t, refresh (withChip (chip 5 0x0C1F) blank) = (true, t) ∧ channelSpacing t = some 10) :=
  ⟨by decide +kernel, rfl, refresh_answers (by decide +kernel),
    refresh_shows (by decide +kernel) (by decide +kernel),
    refresh_shows (by decide +kernel) (by decide +kernel)⟩

/-- Clauses: another phase; a refresh that fails; the tune-complete bit clear; set. -/
theorem hyp_TuneIsReadyClearsTheRequest :
    (inPhase .held blank).phase ≠ .idle ∧ blank.phase = .idle ∧ (∃ t, refresh (noTuner blank) = (false, t)) ∧
    (∃ t, refresh (withChip (chip 10 0xBFFF) blank) = (true, t) ∧ t.shadow[10].getLsbD params.fields.stc = false) ∧
    (∃ t, refresh (withChip (chip 10 0x4000) blank) = (true, t) ∧ t.shadow[10].getLsbD params.fields.stc = true) :=
  ⟨by decide +kernel, rfl, refresh_answers (by decide +kernel),
    refresh_shows (by decide +kernel) (by decide +kernel),
    refresh_shows (by decide +kernel) (by decide +kernel)⟩

/-- Clauses: register 5 not written; written, in bands 0 and 3. -/
theorem hyp_BandLimitsComeFromTheShadow :
    blank.valid[5] = false ∧ (configured 0x0C1F).valid[5] = true ∧
    (0 : BitVec 2) = (configured 0x0C1F).shadow[5].extractLsb' (configured 0x0C1F).params.fields.band 2 ∧
    (3 : BitVec 2) = (configured 0x0CEF).shadow[5].extractLsb' (configured 0x0CEF).params.fields.band 2 := by decide +kernel

/-- A command that refreshes, in every case its statement gives: another phase; a refresh that fails; one that succeeds. For
IsConnectedComparesTheIdentifiers, TunerInitResetsAndRefreshes, StatusQueriesReadRegisterTen and
SleepAndWakeupCommitThePowerBits. -/
theorem hyp_CommandsThatRefresh :
    (inPhase .held blank).phase ≠ .idle ∧ blank.phase = .idle ∧ (∃ t, refresh (noTuner blank) = (false, t)) ∧
    (∃ t, refresh (withChip (chip 0 0x1242) blank) = (true, t)) :=
  ⟨by decide +kernel, rfl, refresh_answers (by decide +kernel), refresh_answers (by decide +kernel)⟩

theorem hyp_TunerInitResetsAndRefreshes :
    blank.phase = .idle ∧
    (∃ t, refresh { noTuner blank with readyEdge := .idle, pty := -1, ps := .replicate 8 0, rt := .replicate 64 0,
                                       wip := .replicate 64 0, textAB := false } = (false, t)) ∧
    (∃ t, refresh { withChip (chip 0 1) blank with
      readyEdge := .idle, pty := -1, ps := .replicate 8 0, rt := .replicate 64 0, wip := .replicate 64 0,
      textAB := false } = (true, t)) :=
  ⟨rfl, refresh_answers (by decide +kernel), refresh_answers (by decide +kernel)⟩

/-- Clauses: the operand 2; another phase; the operands 0 and 1 with a refresh that fails and one that succeeds. -/
theorem hyp_MonoAndSoftmuteCommitOneBit :
    1 < (withOperands 2 0 0 0 blank).larg[0].toNat ∧
    ((withOperands 1 0 0 0 blank).larg[0].toNat ≤ 1 ∧ (inPhase .held blank).phase ≠ .idle) ∧
    ((withOperands 0 0 0 0 (noTuner blank)).larg[0].toNat ≤ 1 ∧ (noTuner blank).phase = .idle ∧
      ∃ t, refresh (withOperands 0 0 0 0 (noTuner blank)) = (false, t)) ∧
    ∃ t, refresh (withOperands 1 0 0 0 (withChip (chip 2 0x4001) blank)) = (true, t) :=
  ⟨by decide +kernel, by decide +kernel, ⟨by decide +kernel, by decide +kernel, refresh_answers (by decide +kernel)⟩, refresh_answers (by decide +kernel)⟩

/-- Clauses: another phase; a refresh that fails; the detector idle and armed, each with the bit set and clear. -/
theorem hyp_RdsPollDecodesOnARise :
    (inPhase .held blank).phase ≠ .idle ∧ (∃ t, refresh (noTuner blank) = (false, t)) ∧
    (∃ t, refresh (withChip (chip 10 0x8000) blank) = (true, t) ∧ blank.readyEdge = .idle ∧
      t.shadow[10].getLsbD params.fields.rdsr = true) ∧
    (∃ t, refresh (withChip (chip 10 0x7FFF) blank) = (true, t) ∧ blank.readyEdge = .idle ∧
      t.shadow[10].getLsbD params.fields.rdsr = false) ∧
    (∃ t, refresh { withChip (chip 10 0x7FFF) blank with readyEdge := .armedForFall } = (true, t) ∧
      t.shadow[10].getLsbD params.fields.rdsr = false) ∧
    (∃ t, refresh { withChip (chip 10 0x8000) blank with readyEdge := .armedForFall } = (true, t) ∧
      t.shadow[10].getLsbD params.fields.rdsr = true) :=
  ⟨by decide +kernel, refresh_answers (by decide +kernel),
    refresh_shows (by decide +kernel) ⟨rfl, by decide +kernel⟩,
    refresh_shows (by decide +kernel) ⟨rfl, by decide +kernel⟩,
    refresh_shows (by decide +kernel) (by decide +kernel),
    refresh_shows (by decide +kernel) (by decide +kernel)⟩

/-- Clauses: an operand above 16 bits, in the first and in the last; all operands legal; the group codes 2 and 31. -/
theorem hyp_RdsDecodeDecodesTheOperands :
    (∃ k : Fin 4, 0xFFFF < (withOperands 0x10000 0 0 0 blank).larg[k].toNat) ∧
    (∃ k : Fin 4, 0xFFFF < (withOperands 0 0 0 0x10000 blank).larg[k].toNat) ∧
    (∀ k : Fin 4, (withOperands 0xFFFF 0xFFFF 0xFFFF 0xFFFF blank).larg[k].toNat ≤ 0xFFFF) ∧
    ((0x1000#16).extractLsb' 11 5 = 2 ∧ (0xF800#16).extractLsb' 11 5 = 31) :=
  ⟨⟨0, by decide +kernel⟩, ⟨3, by decide +kernel⟩, fun k => by fin_cases k <;> decide +kernel, by decide +kernel⟩

/-- Both codes of group 0, the lowest and the highest segment. -/
theorem hyp_GroupZeroSetsNameAndType :
    (0x0000#16).extractLsb' 11 5 = 0 ∧ (0x0FFF#16).extractLsb' 11 5 = 1 ∧ 2 * ((0x0FFF#16).extractLsb' 0 2).toNat = 6 := by
  decide +kernel

/-- The lowest and the highest segment, the flag unchanged and changed. -/
theorem hyp_GroupTwoAWritesFourCharacters :
    (0x2000#16).extractLsb' 11 5 = 4 ∧ (0x201F#16).extractLsb' 11 5 = 4 ∧
    4 * ((0x201F#16).extractLsb' 0 4).toNat = 60 ∧ (0x2000#16).getLsbD 4 = blank.textAB ∧
    (0x201F#16).getLsbD 4 ≠ blank.textAB := by decide +kernel

/-- The lowest and the highest segment, the flag unchanged and changed. -/
theorem hyp_GroupTwoBWritesTwoCharacters :
    (0x2800#16).extractLsb' 11 5 = 5 ∧ (0x281F#16).extractLsb' 11 5 = 5 ∧
    2 * ((0x281F#16).extractLsb' 0 4).toNat = 30 ∧ (0x2800#16).getLsbD 4 = blank.textAB ∧
    (0x281F#16).getLsbD 4 ≠ blank.textAB := by decide +kernel

/-- A BUS_START about to execute, and a reset that arrives before, at and after its one event. -/
def starting (n : Nat) : State := { answering [0x08] blank with pending := some 0x10, schedule := [.powerOnReset n] }

/-- A BUS_SEND of one byte nothing has written, pending when a reset arrives. -/
def cutSend : State :=
  withOperands 1 0 0 0 (inPhase .masterTx { blank with pending := some 0x14, schedule := [.powerOnReset 1] })

/-- Clauses: not busy; busy, with the events the current step would send; busy, with a step that would stop. -/
theorem hyp_PowerOnResetAbandonsTheCommand :
    (nextTurn { blank with schedule := [.powerOnReset 0] } = .powerOnReset 0 ∧ busy blank = false) ∧
    (∀ n, nextTurn (starting n) = .powerOnReset n ∧ busy (starting n) = true) ∧
    (∃ t, controllerStep { starting 1 with schedule := (starting 1).schedule.tail } = .next t ∧
      t.history = (starting 1).history ++ [.start 0x08]) ∧
    (nextTurn cutSend = .powerOnReset 1 ∧ busy cutSend = true ∧
      controllerStep { cutSend with schedule := cutSend.schedule.tail } = .fault .xbufUnwritten) :=
  ⟨⟨rfl, rfl⟩, fun _ => ⟨rfl, rfl⟩, ⟨_, rfl, rfl⟩, rfl, rfl, rfl⟩

/-- The effect of that reset: with n = 0 nothing was sent yet, with n = 1 the start is kept. -/
theorem test_powerOnReset_keeps_what_was_sent :
    look (fun t => (t.history, t.pending, t.answers.length)) (step (starting 0)) = some ([], none, 1) ∧
    look (fun t => (t.history, t.pending, t.answers.length)) (step (starting 1)) = some ([.start 0x08], none, 0) := by decide +kernel

theorem goes_on {r : Result} (h : completes r = true) : ∃ t, r = .next t := by
  cases r with
  | next t => exact ⟨t, rfl⟩
  | fault x => cases h
  | refused x => cases h

/-- A command of each kind that goes on; a refresh that changes register 0 of a file already marked, and an RF_SET. -/
theorem hyp_CommandsWriteOnlyTheirOwnState :
    (∃ t, exec .rdsReset blank = .next t) ∧ (∃ t, exec .busStart (answering [0x08] blank) = .next t) ∧
    (∃ t, exec .rfRefresh (noTuner blank) = .next t) ∧ blank.phase = .idle ∧
    look (fun t => decide (t.shadow[0]? ≠ (configured 0).shadow[0]?)) (exec .rfRefresh (withChip (chip 0 1) (configured 0))) =
      some true ∧
    look (fun t => decide (t.shadow ≠ blank.shadow)) (exec .rfSet (withOperands 5 0x0C1F 0 0 blank)) = some true :=
  ⟨goes_on (by decide +kernel), goes_on (by decide +kernel), goes_on (by decide +kernel), rfl, by decide +kernel,
    by decide +kernel⟩

/-- A step that goes on and is no power-on reset. -/
theorem hyp_HistoryOnlyGrows : resetsNext blank = false ∧ ∃ t, step blank = .next t := ⟨rfl, _, rfl⟩

/-- The invariant holds in a state with a tune in progress, and its next step goes on. -/
theorem hyp_StepKeepsInvariant :
    Invariant (withChip (chip 3 0x8088) (tuning 2 (configured 0x0C1F))) ∧
    completes (step (withChip (chip 3 0x8088) (tuning 2 (configured 0x0C1F)))) = true :=
  ⟨⟨by decide +kernel, by decide +kernel, fun _ => rfl, fun _ => rfl, fun _ => rfl, fun _ => by decide +kernel⟩, by decide +kernel⟩

/-- PHASE and BSC agree with the history in a state with a transaction open, and its next step goes on. -/
theorem hyp_StepKeepsBusCoherent :
    ∃ s : State, BusCoherent s ∧ s.phase = .started ∧ resetsNext s = false ∧ completes (step s) = true :=
  ⟨{ inPhase .started blank with history := [.start 0x08], bsc := 0x08, pending := some 0x11 },
    ⟨by decide +kernel, by decide +kernel⟩, rfl, rfl, by decide +kernel⟩

theorem hyp_WrittenShadowStepsOn :
    (configured 0x0C1F).valid = .replicate 16 true ∧ nextTurn (configured 0x0C1F) = .controller := ⟨rfl, rfl⟩

end Sys2Proof.Tests
end

