-- ==== Sys2Proof/Proofs/Scope.lean ====
section
/-! PROOFS. Family 00_scope: the parameters after reset (R5, R118) and the channel arithmetic (R6, R171-R173). -/
namespace Sys2Proof.Machine
open Sys2Proof

/-! ### The parameters after reset -/

/-- R178: whatever the free value of MAX_TUNE_POLLS is, the bound the machine holds is INF or at least 1. -/
theorem wellFormedBound_defaultParams : wellFormedBound defaultParams = true := by
  simp only [wellFormedBound, defaultParams, Option.all_map]
  cases Config.maxTunePolls with
  | none => rfl
  | some n => exact decide_eq_true (Nat.le_max_left 1 n)

theorem wellFormedParams_defaultParams : wellFormedParams defaultParams = true := by
  have bands : wellFormedBands defaultParams = true := by decide
  have spacing : wellFormedSpacing defaultParams = true := by decide
  have fields : wellFormedFields defaultParams = true := by decide
  simp only [wellFormedParams, bands, spacing, wellFormedBound_defaultParams, fields, Bool.and_self]

theorem startOk_iff (c : StatusCodes) (sc : Byte) : startOk c sc = true ↔ sc = c.start ∨ sc = c.repStart := by
  simp only [startOk, Bool.or_eq_true, decide_eq_true_eq]

/-- Settles O33: each default stands in `defaultParams`; that they keep what R34, R171 and R178 ask is
`wellFormedParams_defaultParams`. -/
theorem parametersAfterReset : Obligations.ParametersAfterReset := by
  rintro p rfl
  exact ⟨rfl, rfl, startOk_iff _, rfl, rfl, rfl, rfl, rfl, rfl, rfl, rfl, rfl, rfl, rfl, wellFormedParams_defaultParams⟩

/-! ### The band and spacing tables -/

@[simp] theorem perBand_zero (t : PerBand) : perBand t 0 = t.b0 := rfl
@[simp] theorem perBand_one (t : PerBand) : perBand t 1 = t.b1 := rfl
@[simp] theorem perBand_two (t : PerBand) : perBand t 2 = t.b2 := rfl
@[simp] theorem perBand_three (t : PerBand) : perBand t 3 = t.b3 := rfl

@[simp] theorem spacingFor_zero (t : PerSpace) : spacingFor t 0 = some t.s0 := rfl
@[simp] theorem spacingFor_one (t : PerSpace) : spacingFor t 1 = some t.s1 := rfl
@[simp] theorem spacingFor_two (t : PerSpace) : spacingFor t 2 = some t.s2 := rfl
@[simp] theorem spacingFor_three (t : PerSpace) : spacingFor t 3 = none := rfl

theorem channelSpacing_of_spaceCode {s : State} {c : BitVec 2} (h : spaceCode s = c) :
    channelSpacing s = spacingFor s.params.spacing c := by
  rw [channelSpacing, h]

/-- R171: no default band is empty, and the widest are 32 MHz wide. -/
theorem default_band_width : ∀ band : BitVec 2,
    perBand defaultBandMin band ≤ perBand defaultBandMax band ∧
      perBand defaultBandMax band - perBand defaultBandMin band ≤ 3200 := by decide

/-- R171: the default spacings are 50 kHz or more. -/
theorem default_spacing_ge : ∀ space : BitVec 2, ∀ sp ∈ spacingFor defaultSpacing space, 5 ≤ sp := by decide

/-! ### Clamping -/

section
variable {x lo hi : Int}

theorem clamp_below (h : x < lo) : clamp x lo hi = lo := if_pos h

theorem clamp_above (hle : lo ≤ hi) (h : hi < x) : clamp x lo hi = hi := by
  rw [clamp, if_neg (by omega), if_pos h]

theorem clamp_inside (hlo : lo ≤ x) (hhi : x ≤ hi) : clamp x lo hi = x := by
  rw [clamp, if_neg (by omega), if_neg (by omega)]

end

/-! ### The channel of a frequency -/

section
variable {low high : Nat} {f : Int}

/-- R173 in natural numbers: a frequency clamped to `k` above the minimum has channel `k div spacing`. -/
theorem channelOf_of_clamp {k : Nat} (sp : Nat) (h : clamp f low high = low + k) : channelOf low high sp f = k / sp := by
  have offset : (clamp f low high - low) / sp = ((k / sp : Nat) : Int) := by
    rw [h, add_sub_cancel_left, Int.natCast_div]
  rw [channelOf, offset, Int.toNat_natCast]

theorem channelOf_below (sp : Nat) (h : f < low) : channelOf low high sp f = 0 := by
  rw [channelOf_of_clamp sp (k := 0) (by rw [clamp_below h, Nat.cast_zero, add_zero]), Nat.zero_div]

theorem channelOf_above (sp : Nat) (hle : low ≤ high) (h : (high : Int) < f) :
    channelOf low high sp f = (high - low) / sp :=
  channelOf_of_clamp sp (by rw [clamp_above (by omega) h]; omega)

theorem channelOf_inside {k : Nat} (sp : Nat) (h : low + k ≤ high) : channelOf low high sp (low + k) = k / sp :=
  channelOf_of_clamp sp (clamp_inside (by omega) (by omega))

/-- R173: no frequency has a channel above the one of the maximum. -/
theorem channelOf_le (sp : Nat) (hle : low ≤ high) : channelOf low high sp f ≤ (high - low) / sp := by
  rcases lt_or_ge f low with below | notBelow
  · exact (channelOf_below sp below).trans_le (Nat.zero_le _)
  rcases lt_or_ge (high : Int) f with above | notAbove
  · exact (channelOf_above sp hle above).le
  · obtain ⟨k, rfl⟩ := Int.le.dest notBelow
    rw [channelOf_inside sp (by omega)]
    exact Nat.div_le_div_right (by omega)

/-- R172, R173: inside the band a frequency lies in the spacing that begins at its channel's own frequency. -/
theorem frequencyOf_channelOf {sp : Nat} (hsp : 1 ≤ sp) (hlow : (low : Int) ≤ f) (hhigh : f ≤ high) :
    (frequencyOf (channelOf low high sp f) sp low : Int) ≤ f ∧
      f < frequencyOf (channelOf low high sp f) sp low + sp := by
  obtain ⟨k, rfl⟩ := Int.le.dest hlow
  rw [channelOf_inside sp (by omega), frequencyOf]
  have start : k / sp * sp ≤ k := Nat.div_mul_le_self k sp
  have next : k < k / sp * sp + sp := Nat.lt_div_mul_add hsp
  omega

end

/-- R173: with the default tables 640 is the largest channel, that of 32 MHz in steps of 50 kHz. -/
theorem channelOf_default_le {s : State} {sp : Nat} (f : Int) (hmin : s.params.bandMin = defaultBandMin)
    (hmax : s.params.bandMax = defaultBandMax) (hspacing : s.params.spacing = defaultSpacing)
    (hsp : channelSpacing s = some sp) : channelOf (bandMinimum s) (bandMaximum s) sp f ≤ 640 := by
  rw [bandMinimum, bandMaximum, hmin, hmax]
  rw [channelSpacing, hspacing] at hsp
  obtain ⟨ordered, width⟩ := default_band_width (bandCode s)
  calc channelOf _ _ sp f
    _ ≤ (perBand defaultBandMax (bandCode s) - perBand defaultBandMin (bandCode s)) / sp := channelOf_le sp ordered
    _ ≤ 3200 / 5 := Nat.div_le_div width (default_spacing_ge _ sp hsp) (by decide)

/-- Settles O34: table selection by code, then the three places of a frequency, then the bound for the default tables. -/
theorem channelOfAFrequency : Obligations.ChannelOfAFrequency := by
  refine ⟨fun t => ⟨perBand_zero t, perBand_one t, perBand_two t, perBand_three t⟩, fun s => ?_,
    fun low high sp f hle hsp => ?_, fun s sp f hmin hmax hspacing => channelOf_default_le f hmin hmax hspacing⟩
  · exact ⟨rfl, rfl, rfl, rfl, fun h => (channelSpacing_of_spaceCode h).trans (spacingFor_zero _),
      fun h => (channelSpacing_of_spaceCode h).trans (spacingFor_one _),
      fun h => (channelSpacing_of_spaceCode h).trans (spacingFor_two _),
      fun h => (channelSpacing_of_spaceCode h).trans (spacingFor_three _)⟩
  · exact ⟨channelOf_below sp, channelOf_above sp hle, frequencyOf_channelOf hsp⟩

end Sys2Proof.Machine
end

/-! PROOFS. Family 10_state: what a command and a turn may write (R20-R44), the machine's two invariants, the status
views, the turns of a step, and power-on reset. -/
namespace Sys2Proof.Machine
open Sys2Proof

/-! ### What a result meets -/

/-- Every next state of the result meets `P`, every fault it stops with meets `F`, and it is no refusal. -/
def Meets (P : State → Prop) (F : Fault → Prop) : Result → Prop
  | .next t => P t
  | .fault x => F x
  | .refused _ => False

section
variable {P Q : State → Prop} {F G : Fault → Prop} {r : Result}

theorem Meets.of_next {t : State} (h : Meets P F r) (hr : r = .next t) : P t := by subst hr; exact h

theorem Meets.imp (h : Meets P F r) (hP : ∀ t, P t → Q t) (hF : ∀ x, F x → G x) : Meets Q G r := by
  cases r with
  | next t => exact hP t h
  | fault x => exact hF x h
  | refused x => exact h

theorem meets_mapNext {f : State → State} (h : Meets P F r) (hf : ∀ t, P t → Q (f t)) : Meets Q F (mapNext f r) := by
  cases r with
  | next t => exact hf t h
  | fault x => exact h
  | refused x => exact h

/-- R97: a guarded command raises, or runs its body with both checks passed. -/
theorem meets_guarded {i : Instr} {s : State} (hraise : ∀ e, P (raise e s))
    (hbody : operandsLegal i s = true → phaseAllowed i s.phase = true → Meets P F r) : Meets P F (guarded i s r) := by
  unfold guarded
  split
  next legal =>
    split
    next allowed => exact hbody legal allowed
    next => exact hraise _
  next => exact hraise _

end

/-! ### Coherence with the bus history -/

theorem transactionOpen_append (h : List BusEvent) (e : BusEvent) :
    transactionOpen (h ++ [e]) = transactionOpen [e] := by simp [transactionOpen]

theorem lastCode_append (noInfo : Byte) (h : List BusEvent) (e : BusEvent) :
    lastCode noInfo (h ++ [e]) = lastCode noInfo [e] := by simp [lastCode]

/-- R112: a stop leaves PHASE and BSC in agreement with the history, whatever they were. -/
theorem busCoherent_busStop (s : State) : BusCoherent (busStop s) where
  phase := by simp [transactionOpen]
  code := by simp [lastCode]

/-- R30, R111-R116: an event that is no stop, recorded with its own code and followed by a phase other than Idle. -/
theorem busCoherent_event {e : BusEvent} {s t : State} (hopen : transactionOpen [e] = true)
    (hhistory : t.history = s.history ++ [e]) (hcode : t.bsc = lastCode t.params.sc.noInfo [e])
    (hphase : t.phase ≠ .idle) : BusCoherent t where
  phase := by simp [hhistory, transactionOpen_append, hopen, hphase]
  code := by rw [hhistory, lastCode_append, hcode]

/-! ### The parts of the state a command may write -/

/-- The parts of the state that only some commands write. -/
inductive Part where
  /-- The bus master: PHASE, BSC, the history and the draws. -/
  | bus
  /-- The phases other than Idle, entered from Idle. -/
  | phase
  /-- XBUF and its written marks. -/
  | xbuf
  /-- RE_STATE, the ready-edge detector. -/
  | detector
  /-- The RDS decoder: PS, RT, WIP, TEXT_AB and PTY. -/
  | decoder
  /-- SEQ and POLLS. -/
  | sequencer
  /-- The shadow file once it is marked written whole. -/
  | file
  /-- A shadow register and its written mark, whatever the marks of the others. -/
  | register
  deriving DecidableEq

/-- The commands that write a part. -/
def writers : Part → List Instr
  | .bus => [.busStart, .busStop, .busAddr, .busSendByte, .busSend, .busRecv, .busWrite, .busRead, .rfRefresh, .rfCommit,
      .tunerInit, .tuneSetFreq, .tuneGetFreq, .tuneIsReady, .tunerIsConnected, .tunerIsTuned, .tunerIsStereo,
      .tunerGetRssi, .tunerSetMono, .tunerSetSoftmute, .tunerSleep, .tunerWakeup, .rdsPoll]
  | .phase => [.busStart, .busAddr, .busSendByte, .busSend]
  | .xbuf => [.busRecv, .busRead]
  | .detector => [.rdsPoll, .tunerInit]
  | .decoder => [.rdsPoll, .rdsDecode, .rdsReset, .tunerInit, .tunerWakeup]
  | .sequencer => [.tuneSetFreq]
  | .file => [.rfRefresh, .tunerInit, .tuneSetFreq, .tuneGetFreq, .tuneIsReady, .tunerIsConnected, .tunerIsTuned,
      .tunerIsStereo, .tunerGetRssi, .tunerSetMono, .tunerSetSoftmute, .tunerSleep, .tunerWakeup, .rdsPoll]
  | .register => [.rfSet]

/-- The command writes the part. -/
abbrev MayWrite (i : Instr) (p : Part) : Prop := i ∈ writers p

/-- What no command writes (R21, R22, R24): the host's side, the parameters, and the model's own turns and notes. -/
structure HostSide where
  arg : Vector Word 4
  larg : Vector Word 4
  pending : Option Word
  drop : Bool
  params : Params
  schedule : List Turn
  hostReads : List (BitVec 12 × Word)

/-- The part of a state that no command writes. -/
def hostSide (s : State) : HostSide := ⟨s.arg, s.larg, s.pending, s.drop, s.params, s.schedule, s.hostReads⟩

/-- The bus master's own fields (R29, R30, R42). -/
def busSide (s : State) : Phase × List BusEvent × Byte × Nat := (s.phase, s.history, s.bsc, s.draws)

/-- The decoder's own fields (R37-R40). -/
def decoderSide (s : State) : Bool × Vector Byte 64 × Vector Byte 64 × Vector Byte 8 × BitVec 6 :=
  (s.textAB, s.rt, s.wip, s.ps, s.pty)

/-- The whole shadow file is marked written (R36). -/
def FileWritten (s : State) : Prop := s.valid = .replicate 16 true

/-- What leads from `s` to `t` writes only the parts in `W`, and keeps what every command keeps: a legal PTY, the earlier
bus events, and the agreement of PHASE and BSC with them. The proofs given as defaults are those of an update that does
not name the field. -/
structure Effect (W : Part → Prop) (s t : State) : Prop where
  host : hostSide t = hostSide s := by exact rfl
  bus : ¬ W .bus → busSide t = busSide s := by exact fun _ => rfl
  phase : ¬ W .phase → s.phase = .idle → t.phase = .idle := by exact fun _ h => h
  xbuf : ¬ W .xbuf → t.xbuf = s.xbuf ∧ t.xvalid = s.xvalid := by exact fun _ => ⟨rfl, rfl⟩
  detector : ¬ W .detector → t.readyEdge = s.readyEdge := by exact fun _ => rfl
  decoder : ¬ W .decoder → decoderSide t = decoderSide s := by exact fun _ => rfl
  sequencer : ¬ W .sequencer → t.seq = s.seq ∧ t.polls = s.polls := by exact fun _ => ⟨rfl, rfl⟩
  file : ¬ W .register → (t.shadow = s.shadow ∧ t.valid = s.valid) ∨ (W .file ∧ FileWritten t) := by
    exact fun _ => .inl ⟨rfl, rfl⟩
  pty : ptyLegal s = true → ptyLegal t = true := by exact fun h => h
  history : s.history <+: t.history := by exact List.prefix_rfl
  coherent : BusCoherent s → BusCoherent t := by exact fun h => ⟨h.phase, h.code⟩

section
variable {W W' : Part → Prop} {s t u : State}

theorem Effect.refl (W : Part → Prop) (s : State) : Effect W s s where

theorem Effect.trans (h : Effect W s t) (h' : Effect W t u) : Effect W s u where
  host := h'.host.trans h.host
  bus n := (h'.bus n).trans (h.bus n)
  phase n hs := h'.phase n (h.phase n hs)
  xbuf n := ⟨(h'.xbuf n).1.trans (h.xbuf n).1, (h'.xbuf n).2.trans (h.xbuf n).2⟩
  detector n := (h'.detector n).trans (h.detector n)
  decoder n := (h'.decoder n).trans (h.decoder n)
  sequencer n := ⟨(h'.sequencer n).1.trans (h.sequencer n).1, (h'.sequencer n).2.trans (h.sequencer n).2⟩
  file n := by
    rcases h'.file n with ⟨shadow, valid⟩ | written
    · rcases h.file n with ⟨shadow', valid'⟩ | ⟨hf, written⟩
      · exact .inl ⟨shadow.trans shadow', valid.trans valid'⟩
      · exact .inr ⟨hf, valid.trans written⟩
    · exact .inr written
  pty hs := h'.pty (h.pty hs)
  history := h.history.trans h'.history
  coherent hs := h'.coherent (h.coherent hs)

/-- A larger set of parts allows more. -/
theorem Effect.mono (h : Effect W s t) (hW : ∀ p, W p → W' p) : Effect W' s t where
  host := h.host
  bus n := h.bus (mt (hW _) n)
  phase n := h.phase (mt (hW _) n)
  xbuf n := h.xbuf (mt (hW _) n)
  detector n := h.detector (mt (hW _) n)
  decoder n := h.decoder (mt (hW _) n)
  sequencer n := h.sequencer (mt (hW _) n)
  file n := (h.file (mt (hW _) n)).imp_right (And.imp_left (hW _))
  pty := h.pty
  history := h.history
  coherent := h.coherent

theorem Effect.params (h : Effect W s t) : t.params = s.params := congrArg HostSide.params h.host

theorem Effect.pending (h : Effect W s t) : t.pending = s.pending := congrArg HostSide.pending h.host

theorem Effect.fileWritten (h : Effect W s t) (n : ¬ W .register) (hs : FileWritten s) : FileWritten t := by
  rcases h.file n with ⟨-, valid⟩ | ⟨-, written⟩
  · exact valid.trans hs
  · exact written

/-! ### The effect of each operation -/

theorem effect_complete (v : Word) (e : Err) (s : State) : Effect W s (complete v e s) where

theorem effect_storeStg (bs : List Byte) (s : State) : Effect W s (storeStg bs s) where

theorem effect_storeXbuf (hW : W .xbuf) (bs : List Byte) (s : State) : Effect W s (storeXbuf bs s) where
  xbuf n := absurd hW n

theorem effect_readyEdge (hW : W .detector) (e : ReadyEdge) (s : State) : Effect W s { s with readyEdge := e } where
  detector n := absurd hW n

theorem effect_sequencer (hW : W .sequencer) (q : Seq) (polls : Nat) (s : State) :
    Effect W s { s with seq := q, polls := polls } where
  sequencer n := absurd hW n

/-- A change of the registers that leaves the whole file marked written. -/
theorem effect_file (hW : W .file) (shadow : Vector Half 16) (valid : Vector Bool 16) (s : State)
    (hvalid : valid = .replicate 16 true) : Effect W s { s with shadow := shadow, valid := valid } where
  file _ := .inr ⟨hW, hvalid⟩

theorem effect_loadShadow (hW : W .file) (s : State) : Effect W s (loadShadow s) := effect_file hW _ _ s rfl

/-- R35: a register of a file that is written whole. -/
theorem effect_setShadow (hW : W .file) (i : Fin 16) (v : Half) (hs : FileWritten s) : Effect W s (setShadow i v s) :=
  effect_file hW _ _ s hs

theorem effect_setRegister (hW : W .register) (shadow : Vector Half 16) (valid : Vector Bool 16) (s : State) :
    Effect W s { s with shadow := shadow, valid := valid } where
  file n := absurd hW n

theorem effect_rdsClear (hW : W .decoder) (s : State) : Effect W s (rdsClear s) where
  decoder n := absurd hW n
  pty _ := rfl

/-- A transaction, once its stop has been sent. -/
theorem effect_busStop (hW : W .bus) (hframe : BusFrame s u) (hgrows : s.history <+: u.history) :
    Effect W s (busStop u) where
  host := (congrArg hostSide hframe :)
  bus n := absurd hW n
  phase _ _ := rfl
  xbuf _ := ⟨hframe.xbuf, hframe.xvalid⟩
  detector _ := hframe.readyEdge
  decoder _ := (congrArg decoderSide hframe :)
  sequencer _ := ⟨hframe.seq, hframe.polls⟩
  file _ := .inl ⟨hframe.shadow, hframe.valid⟩
  pty h := (congrArg ptyLegal hframe :).trans h
  history := hgrows.trans (List.prefix_append _ _)
  coherent _ := busCoherent_busStop u

/-- An event that is no stop, after which a transaction is open. -/
theorem effect_event (hbus : W .bus) (hphase : W .phase) {e : BusEvent} {sc : Byte} {p : Phase} (s : State)
    (hopen : transactionOpen [e] = true) (hcode : sc = lastCode s.params.sc.noInfo [e]) (hp : p ≠ .idle) :
    Effect W s (setPhase p (recordEvent e sc s)) where
  bus n := absurd hbus n
  phase n := absurd hphase n
  history := List.prefix_append _ _
  coherent _ := busCoherent_event (s := s) hopen rfl hcode hp

/-- R119: a sequence of bytes, sent while a transaction is open. -/
theorem effect_sendSeq (hbus : W .bus) (hphase : W .phase) (bs : List Byte) (s : State) (hs : s.phase ≠ .idle) :
    Effect W s (sendSeq bs s).2 := by
  induction bs generalizing s with
  | nil => exact Effect.refl W s
  | cons b rest ih =>
    by_cases h : (busTx b s).1 = s.params.sc.mtDataAck
    · rw [sendSeq_cons_ack b rest s h]
      have sent : Effect W s (busTx b s).2 := effect_event hbus hphase (p := s.phase) s rfl rfl hs
      exact sent.trans (ih _ hs)
    · rw [sendSeq_cons_nak b rest s h]
      exact effect_event hbus hphase s rfl rfl Phase.noConfusion

theorem effect_recvSeq (hW : W .bus) (n : Nat) (s : State) : Effect W s (recvSeq n s).2 := by
  obtain ⟨u, hframe, hgrows, hu⟩ := recvSeq_ends_with_stop n s
  exact hu ▸ effect_busStop hW hframe hgrows

theorem effect_writeSeq (hW : W .bus) (slave : BitVec 7) (src : List Byte) (s : State) :
    Effect W s (writeSeq slave src s).2 := by
  obtain ⟨u, hframe, hgrows, hu⟩ := writeSeq_ends_with_stop slave src s
  exact hu ▸ effect_busStop hW hframe hgrows

theorem effect_readSeq (hW : W .bus) (slave : BitVec 7) (n : Nat) (s : State) : Effect W s (readSeq slave n s).2 := by
  obtain ⟨u, hframe, hgrows, hu⟩ := readSeq_ends_with_stop slave n s
  exact hu ▸ effect_busStop hW hframe hgrows

/-- R152: a refresh that succeeds leaves the whole file written. -/
theorem effect_refresh (hbus : W .bus) (hfile : W .file) (s : State) :
    Effect W s (refresh s).2 ∧ ((refresh s).1 = true → FileWritten (refresh s).2) := by
  obtain ⟨u, bs, hframe, hgrows, ⟨-, h⟩ | ⟨-, h⟩⟩ := refresh_cases s
  all_goals
    have stored : Effect W s (storeStg bs (busStop u)) :=
      (effect_busStop hbus hframe hgrows).trans (effect_storeStg bs _)
    rw [h]
  · exact ⟨stored.trans (effect_loadShadow hfile _), fun _ => rfl⟩
  · exact ⟨stored, Bool.noConfusion⟩

/-! ### The decoder -/

theorem ptyLegal_group0 (b d : Half) (s : State) : ptyLegal (group0 b d s) = true := by
  have bound : ((ptyField b).setWidth 6).toNat < 32 := by
    rw [BitVec.toNat_setWidth]; exact (Nat.mod_le _ _).trans_lt (ptyField b).isLt
  simp only [ptyLegal, group0, bound, decide_true, Bool.or_true]

theorem effect_group0 (hW : W .decoder) (b d : Half) (s : State) : Effect W s (group0 b d s) where
  decoder n := absurd hW n
  pty _ := ptyLegal_group0 b d s

theorem effect_textFlag (hW : W .decoder) (ab : Bool) (s : State) : Effect W s (textFlag ab s) := by
  have changed : Effect W s { s with rt := s.wip, wip := .replicate 64 0, textAB := ab } :=
    { decoder := fun n => absurd hW n }
  unfold textFlag
  split
  · exact changed
  · exact Effect.refl W s

theorem effect_writeText (hW : W .decoder) (place : Nat) (chars : List Byte) (s : State) :
    Effect W s (writeText place chars s) where
  decoder n := absurd hW n

theorem effect_decodeGroup (hW : W .decoder) (a b c d : Half) (s : State) : Effect W s (decodeGroup a b c d s).2 := by
  have text (place : Nat) (chars : List Byte) : Effect W s (writeText place chars (textFlag (abFlag b) s)) :=
    (effect_textFlag hW _ s).trans (effect_writeText hW place chars _)
  unfold decodeGroup
  split
  · exact effect_group0 hW b d s
  · exact effect_group0 hW b d s
  · exact text _ _
  · exact text _ _
  · exact Effect.refl W s

theorem effect_readyEdgePoll (hdetector : W .detector) (hdecoder : W .decoder) (s : State) :
    Effect W s (readyEdgePoll s) := by
  have edge (e : ReadyEdge) := effect_readyEdge hdetector e s
  unfold readyEdgePoll
  split
  · exact ((edge _).trans (effect_decodeGroup hdecoder _ _ _ _ _)).trans (effect_complete _ _ _)
  · exact effect_complete _ _ _
  · exact (edge _).trans (effect_complete _ _ _)
  · exact effect_complete _ _ _

end

/-! ### The faults of a command -/

/-- R258, R273: the faults a controller step from `s` may stop with; two of them if the file is written whole. -/
def ControllerFault (s : State) (x : Fault) : Prop := FileWritten s → x = .xbufUnwritten ∨ x = .channelRange

/-- What a command or a poll from `s` answers that writes only the parts in `W`. -/
abbrev Writes (W : Part → Prop) (s : State) (r : Result) : Prop := Meets (Effect W s) (ControllerFault s) r

section
variable {W : Part → Prop} {P : State → Prop} {F : Fault → Prop} {s u : State}

theorem controllerFault_shadowUnwritten (hs : ¬ FileWritten s) : ControllerFault s .shadowUnwritten :=
  fun written => absurd written hs

theorem valid_five (hs : FileWritten s) : s.valid[5] = true := by rw [FileWritten] at hs; rw [hs]; rfl

theorem writes_guarded {i : Instr} {body : Result} (hbody : phaseAllowed i s.phase = true → Writes W s body) :
    Writes W s (guarded i s body) :=
  meets_guarded (fun e => effect_complete 0 e s) fun _ => hbody

/-! ### The shapes of commands that refresh and commit -/

/-- R153: a commit writes the bus only, and stops where the file is not written whole. -/
theorem meets_withCommit {k : Bool → State → Result} (hbus : W .bus) (hfault : ¬ FileWritten u → F .shadowUnwritten)
    (hk : ∀ ok t, Effect W u t → t.valid = u.valid → Meets P F (k ok t)) : Meets P F (withCommit u k) := by
  rcases commit_cases u with ⟨notReady, h⟩ | ⟨-, ok, v, hframe, hgrows, h⟩
  · rw [withCommit_error _ _ _ h]
    exact hfault fun written => by rw [commitReady_of_all_valid u written] at notReady; cases notReady
  · rw [withCommit_ok _ _ _ _ h]
    exact hk ok _ ((effect_storeStg _ u).trans (effect_busStop hbus hframe hgrows)) hframe.valid

theorem writes_commitAndReport (hbus : W .bus) (hu : Effect W s u)
    (hfault : ¬ FileWritten u → ControllerFault s .shadowUnwritten) : Writes W s (commitAndReport u) :=
  meets_withCommit hbus hfault fun _ _ ht _ => hu.trans (ht.trans (effect_complete _ _ _))

/-- R252: a refresh either ends the command, or goes on from a file that is written whole. -/
theorem meets_withRefresh {k : State → Result} (hbus : W .bus) (hfile : W .file)
    (hfailed : ∀ t, Effect W s t → P (complete 0 .busFailure t))
    (hk : ∀ t, Effect W s t → FileWritten t → Meets P F (k t)) : Meets P F (withRefresh s k) := by
  obtain ⟨ht, written⟩ := effect_refresh hbus hfile s
  unfold withRefresh
  split
  next ok => exact hk _ ht (written ok)
  next => exact hfailed _ ht

theorem writes_withRefresh {k : State → Result} (hbus : W .bus) (hfile : W .file)
    (hk : ∀ t, Effect W s t → FileWritten t → Writes W s (k t)) : Writes W s (withRefresh s k) :=
  meets_withRefresh hbus hfile (fun _ ht => ht.trans (effect_complete _ _ _)) hk

/-- A command that ends in `good` after a refresh that succeeded. -/
theorem effect_afterRefresh (hbus : W .bus) (hfile : W .file) {good : State} (hgood : Effect W (refresh s).2 good) :
    Effect W s (if (refresh s).1 then good else complete 0 .busFailure (refresh s).2) := by
  obtain ⟨ht, -⟩ := effect_refresh hbus hfile s
  split
  · exact ht.trans hgood
  · exact ht.trans (effect_complete _ _ _)

theorem writes_refreshAndReport (hbus : W .bus) (hfile : W .file) (value : State → Word) :
    Writes W s (refreshAndReport value s) :=
  effect_afterRefresh hbus hfile (effect_complete _ _ _)

/-- R194-R197: register 2 is changed in a file that is written whole, and committed. -/
theorem writes_changePower (hbus : W .bus) (hfile : W .file) (f : Params → Half → Half) :
    Writes W s (withRefresh s fun t => commitAndReport (changePower f t)) :=
  writes_withRefresh hbus hfile fun _ ht written =>
    writes_commitAndReport hbus (ht.trans (effect_setShadow hfile _ _ written)) fun notWritten => absurd written notWritten

/-- R174: the poll of the tune-complete bit writes the bus and the file, and its commit cannot fault. -/
theorem meets_isReadySeq {k : Bool → Bool → State → Result} (hbus : W .bus) (hfile : W .file)
    (hk : ∀ done ok t, Effect W s t → Meets P F (k done ok t)) : Meets P F (isReadySeq s k) := by
  obtain ⟨ht, written⟩ := effect_refresh hbus hfile s
  unfold isReadySeq
  split
  next ok =>
    split
    · exact meets_withCommit hbus (fun notWritten => absurd (written ok) notWritten) fun committed t hu _ =>
        hk true committed t (ht.trans ((effect_setShadow hfile _ _ (written ok)).trans hu))
    · exact hk false true _ ht
  next => exact hk false false _ ht

end

/-! ### The thirty commands -/

/-- R117: while the bus master sends, a transaction is open. -/
theorem ne_idle_of_masterTx {p : Phase} (h : p = .masterTx) : p ≠ .idle := by rw [h]; exact Phase.noConfusion

section
variable {W : Part → Prop} {s : State}

theorem effect_busStopUnlessIdle (hbus : W .bus) : Effect W s (if s.phase = .idle then s else busStop s) := by
  split
  · exact Effect.refl _ s
  · exact effect_busStop hbus (BusFrame.refl s) List.prefix_rfl

/-- R127, R129: a transfer from XBUF, or the fault of an unwritten byte. -/
theorem writes_ifWritten {written : Bool} {t : State} (ht : Effect W s t) :
    Writes W s (if written then .next t else .fault .xbufUnwritten) := by
  split
  · exact ht
  · exact fun _ => .inl rfl

theorem writes_reportLimit (limit : State → Nat) : Writes W s (reportLimit limit s) := by
  unfold reportLimit
  split
  next => exact effect_complete _ _ _
  next unwritten => exact controllerFault_shadowUnwritten (mt valid_five unwritten)

/-- R180: both answers of a refresh that succeeded write RESULT and ERR only. -/
theorem writes_tuneGetFreq (hbus : W .bus) (hfile : W .file) : Writes W s (execTuneGetFreq s) := by
  refine writes_guarded fun _ => effect_afterRefresh hbus hfile ?_
  split
  · exact effect_complete _ _ _
  · exact effect_complete _ _ _

/-- R197: only a successful commit resets the decoder. -/
theorem writes_tunerWakeup (hbus : W .bus) (hfile : W .file) (hdecoder : W .decoder) :
    Writes W s (execTunerWakeup s) := by
  refine writes_guarded fun _ => writes_withRefresh hbus hfile fun _ ht written =>
    meets_withCommit hbus (fun notWritten => absurd written notWritten) fun ok u hu _ => ?_
  have committed := ht.trans ((effect_setShadow hfile _ _ written).trans hu)
  have decoded : Effect W u (if ok then rdsClear u else u) := by
    split
    · exact effect_rdsClear hdecoder u
    · exact Effect.refl _ u
  exact committed.trans (decoded.trans (effect_complete _ _ _))

end

/-! ### The setup of a tune (R175) -/

/-- What the two bursts of the register-file engine write. -/
def burstParts : List Part := [.bus, .file]

/-- What the setup of a tune does: its writes, and the state in which polling starts. -/
structure TuneSetup (s t : State) : Prop where
  effect : Effect (MayWrite .tuneSetFreq) s t
  starts : t.seq = .tuning → s.seq = .tuning ∨ (t.phase = .idle ∧ FileWritten t ∧ t.polls = 0)

section
variable {s : State}

theorem burst_tuneSetFreq {t u : State} (h : Effect (· ∈ burstParts) t u) : Effect (MayWrite .tuneSetFreq) t u :=
  h.mono (by decide)

/-- An end of the setup at which no tune has begun. -/
theorem tuneSetup_complete {t : State} (ht : Effect (· ∈ burstParts) s t) (v : Word) (e : Err) :
    TuneSetup s (complete v e t) where
  effect := burst_tuneSetFreq (ht.trans (effect_complete v e t))
  starts h := .inl ((ht.sequencer (by decide)).1.symm.trans h)

theorem startTune_meets (chan : BitVec 10) (hphase : s.phase = .idle) :
    Meets (TuneSetup s) (ControllerFault s) (startTune chan s) := by
  refine meets_withRefresh (W := (· ∈ burstParts)) (by decide) (by decide) (fun t ht => tuneSetup_complete ht _ _)
    fun t ht written => ?_
  refine meets_withCommit (W := (· ∈ burstParts)) (by decide) (fun notWritten => absurd written notWritten)
    fun ok u hu hvalid => ?_
  have requested : Effect (· ∈ burstParts) t (requestChannel chan t) :=
    (effect_setShadow (by decide) _ _ written).trans (effect_setShadow (by decide) _ _ written)
  have committed := ht.trans (requested.trans hu)
  cases ok with
  | false => exact tuneSetup_complete committed _ _
  | true =>
    exact ⟨(burst_tuneSetFreq committed).trans (effect_sequencer (by decide) _ _ u),
      fun _ => .inr ⟨committed.phase (by decide) hphase, hvalid.trans written, rfl⟩⟩

theorem execTuneSetFreq_meets : Meets (TuneSetup s) (ControllerFault s) (execTuneSetFreq s) := by
  have raised (e : Err) : TuneSetup s (raise e s) := tuneSetup_complete (Effect.refl _ s) 0 e
  refine meets_guarded raised fun _ allowed => ?_
  split
  next =>
    split
    next => exact raised _
    next sp _ =>
      dsimp only
      split
      · exact fun _ => .inr rfl
      · exact startTune_meets _ (of_decide_eq_true allowed)
  next unwritten => exact controllerFault_shadowUnwritten (mt valid_five unwritten)

end

/-! ### What each command writes -/

/-- Every command writes only the parts that `writers` lists it for, and stops only with the faults of R258. -/
theorem exec_writes (i : Instr) (s : State) : Writes (MayWrite i) s (exec i s) := by
  cases i <;> dsimp only [exec]
  case busStart =>
    exact writes_guarded fun _ =>
      (effect_event (by decide) (by decide) s rfl rfl (by split <;> decide)).trans (effect_complete _ _ _)
  case busStop =>
    exact writes_guarded fun _ => (effect_busStopUnlessIdle (by decide)).trans (effect_complete _ _ _)
  case busAddr =>
    have reached (ok dir : Bool) : (if ok then if dir then .masterRx else .masterTx else .held) ≠ Phase.idle := by
      cases ok <;> cases dir <;> decide
    exact writes_guarded fun _ =>
      (effect_event (by decide) (by decide) s rfl rfl (reached _ _)).trans (effect_complete _ _ _)
  case busSendByte =>
    exact writes_guarded fun allowed =>
      (effect_sendSeq (by decide) (by decide) _ s (ne_idle_of_masterTx (of_decide_eq_true allowed))).trans
        (effect_complete _ _ _)
  case busSend =>
    exact writes_guarded fun allowed => writes_ifWritten <|
      (effect_sendSeq (by decide) (by decide) _ s (ne_idle_of_masterTx (of_decide_eq_true allowed))).trans
        (effect_complete _ _ _)
  case busRecv =>
    exact writes_guarded fun _ =>
      (effect_recvSeq (by decide) _ s).trans ((effect_storeXbuf (by decide) _ _).trans (effect_complete _ _ _))
  case busWrite =>
    exact writes_guarded fun _ => writes_ifWritten <|
      (effect_writeSeq (by decide) _ _ s).trans (effect_complete _ _ _)
  case busRead =>
    exact writes_guarded fun _ =>
      (effect_readSeq (by decide) _ _ s).trans ((effect_storeXbuf (by decide) _ _).trans (effect_complete _ _ _))
  case rfRefresh =>
    exact writes_guarded fun _ => (effect_refresh (by decide) (by decide) s).1.trans (effect_complete _ _ _)
  case rfCommit =>
    exact writes_guarded fun _ => writes_commitAndReport (by decide) (Effect.refl _ s) controllerFault_shadowUnwritten
  case rfSet => exact writes_guarded fun _ => (effect_setRegister (by decide) _ _ s).trans (effect_complete _ _ _)
  case tunerInit =>
    exact writes_guarded fun _ =>
      (effect_readyEdge (by decide) .idle s).trans <| (effect_rdsClear (by decide) _).trans <|
        (effect_refresh (by decide) (by decide) _).1.trans (effect_complete _ _ _)
  case tuneSetFreq => exact execTuneSetFreq_meets.imp (fun _ ht => ht.effect) fun _ hx => hx
  case tuneGetFreq => exact writes_tuneGetFreq (by decide) (by decide)
  case tuneIsReady =>
    exact writes_guarded fun _ => meets_isReadySeq (W := MayWrite .tuneIsReady) (by decide) (by decide)
      fun _ _ _ ht => ht.trans (effect_complete _ _ _)
  case tunerIsConnected | tunerIsTuned | tunerIsStereo | tunerGetRssi =>
    exact writes_guarded fun _ => writes_refreshAndReport (by decide) (by decide) _
  case tuneGetMin | tuneGetMax => exact writes_guarded fun _ => writes_reportLimit _
  case tunerSetMono | tunerSetSoftmute | tunerSleep =>
    exact writes_guarded fun _ => writes_changePower (by decide) (by decide) _
  case tunerWakeup => exact writes_tunerWakeup (by decide) (by decide) (by decide)
  case tuneSeekUp | tuneSeekDown => exact writes_guarded fun _ => effect_complete _ _ s
  case rdsPoll =>
    exact writes_guarded fun _ =>
      effect_afterRefresh (by decide) (by decide) (effect_readyEdgePoll (by decide) (by decide) _)
  case rdsDecode =>
    exact writes_guarded fun _ => (effect_decodeGroup (by decide) _ _ _ _ s).trans (effect_complete _ _ _)
  case rdsReset => exact writes_guarded fun _ => (effect_rdsClear (by decide) s).trans (effect_complete _ _ _)

/-! ### The end of a poll iteration (R177-R179) -/

/-- What a poll iteration writes: the two bursts, the decoder and the sequencer, and at a timeout a register whatever the
marks of the others. -/
def pollParts : List Part := [.bus, .file, .register, .decoder, .sequencer]

/-- What a poll iteration does: its writes, and the state in which polling goes on. -/
structure PollDone (s t : State) : Prop where
  effect : Effect (· ∈ pollParts) s t
  goesOn : t.seq = .tuning → (FileWritten s → FileWritten t) ∧ pollsExhausted t.params t.polls = false

section
variable {s t : State}

theorem tuneDone_pollDone (ht : Effect (· ∈ pollParts) s t) (ok : Bool) : PollDone s (tuneDone ok t) where
  effect := ht.trans <| (effect_rdsClear (by decide) t).trans <|
    (effect_sequencer (by decide) .idle t.polls _).trans (effect_complete _ _ _)
  goesOn := Seq.noConfusion

theorem tuneTimeout_meets (ht : Effect (· ∈ pollParts) s t) (hvalid : FileWritten s → FileWritten t) :
    Meets (PollDone s) (ControllerFault s) (tuneTimeout t) := by
  refine meets_withCommit (W := (· ∈ pollParts)) (by decide)
    (fun notWritten => controllerFault_shadowUnwritten (mt hvalid notWritten)) fun _ u hu _ => ?_
  have cleared : Effect (· ∈ pollParts) t (setTuneBit false t) := effect_setRegister (by decide) _ _ t
  exact ⟨ht.trans <| cleared.trans <| hu.trans <| (effect_sequencer (by decide) .idle u.polls u).trans
    (effect_complete _ _ _), Seq.noConfusion⟩

theorem pollIteration_meets : Meets (PollDone s) (ControllerFault s) (pollIteration s) := by
  refine meets_isReadySeq (W := (· ∈ burstParts)) (by decide) (by decide) fun done ok t ht => ?_
  have polled : Effect (· ∈ pollParts) s t := ht.mono (by decide)
  have counted : Effect (· ∈ pollParts) s { t with polls := t.polls + 1 } :=
    polled.trans (effect_sequencer (by decide) t.seq (t.polls + 1) t)
  have written : FileWritten s → FileWritten t := ht.fileWritten (by decide)
  split
  · exact tuneDone_pollDone polled ok
  · split
    · exact tuneTimeout_meets counted written
    next notExhausted => exact ⟨counted, fun _ => ⟨written, Bool.eq_false_of_not_eq_true notExhausted⟩⟩

end

/-! ### The invariant across a command and a poll -/

theorem pollsExhausted_zero {p : Params} (h : wellFormedParams p = true) : pollsExhausted p 0 = false := by
  simp only [wellFormedParams, Bool.and_eq_true] at h
  obtain ⟨⟨-, bound⟩, -⟩ := h
  unfold wellFormedBound at bound
  unfold pollsExhausted
  cases hp : p.maxTunePolls with
  | none => rfl
  | some n => simpa [hp, Nat.one_le_iff_ne_zero] using bound

/-- What holds while a tune is in progress, beside that nothing is pending (R175-R179). -/
structure TuneInProgress (s : State) : Prop where
  phase : s.phase = .idle
  written : FileWritten s
  polls : pollsExhausted s.params s.polls = false

/-- The parameters and PTY need no more than an effect; a tune that is in progress afterwards needs facts of its own. -/
theorem Effect.invariant {W : Part → Prop} {s u : State} (h : Effect W s u) (hs : Invariant s) {p : Option Word}
    (hpending : u.seq = .tuning → p = none) (htune : u.seq = .tuning → TuneInProgress u) :
    Invariant { u with pending := p } where
  params := (congrArg wellFormedParams h.params).trans hs.params
  pty := h.pty hs.pty
  tunePending := hpending
  tunePhase tuning := (htune tuning).phase
  tuneValid tuning := (htune tuning).written
  tunePolls tuning := (htune tuning).polls

/-! ### What every turn keeps -/

/-- What every turn but a power-on reset keeps. The proofs given as defaults are those of an update that names none of the
fields. -/
structure Advances (s t : State) : Prop where
  history : s.history <+: t.history := by exact List.prefix_rfl
  coherent : BusCoherent s → BusCoherent t := by exact fun h => ⟨h.phase, h.code⟩
  invariant : Invariant s → Invariant t := by
    exact fun h => ⟨h.params, h.pty, h.tunePending, h.tunePhase, h.tuneValid, h.tunePolls⟩

section
variable {s t u : State}

theorem Advances.refl (s : State) : Advances s s where

theorem Advances.trans (h : Advances s t) (h' : Advances t u) : Advances s u where
  history := h.history.trans h'.history
  coherent := h'.coherent ∘ h.coherent
  invariant := h'.invariant ∘ h.invariant

/-- A command that was pending has run, and is pending no more (R23). -/
theorem Effect.advances_ran {W : Part → Prop} (h : Effect W s u)
    (hstart : u.seq = .tuning → u.phase = .idle ∧ FileWritten u ∧ u.polls = 0) :
    Advances s { u with pending := none } where
  history := h.history
  coherent hs := ⟨(h.coherent hs).phase, (h.coherent hs).code⟩
  invariant hs := h.invariant hs (fun _ => rfl) fun tuning => by
    obtain ⟨phase, written, polls⟩ := hstart tuning
    exact ⟨phase, written, by rw [polls, h.params]; exact pollsExhausted_zero hs.params⟩

/-- R22: no command but a tune's setup begins a tune. -/
theorem exec_ran (i : Instr) (hs : s.seq = .idle) :
    Meets (fun u => Advances s { u with pending := none }) (ControllerFault s) (exec i s) := by
  by_cases hi : i = .tuneSetFreq
  · subst hi
    refine execTuneSetFreq_meets.imp (fun u hu => hu.effect.advances_ran fun tuning => ?_) fun _ hx => hx
    exact (hu.starts tuning).resolve_left (by rw [hs]; exact Seq.noConfusion)
  · refine (exec_writes i s).imp (fun u hu => hu.advances_ran fun tuning => ?_) fun _ hx => hx
    have kept := (hu.sequencer (by simpa [MayWrite, writers] using hi)).1
    rw [kept, hs] at tuning
    cases tuning

theorem executeWord_advances (w : Word) (hs : s.seq = .idle) :
    Meets (Advances s) (ControllerFault s) (executeWord w s) := by
  refine meets_mapNext (P := fun u => Advances s { u with pending := none }) ?_ fun _ h => h
  split
  · exact exec_ran _ hs
  · refine (effect_complete (W := fun _ => False) 0 .illegalCommand s).advances_ran fun tuning => ?_
    rw [complete_seq, hs] at tuning
    cases tuning

theorem pollIteration_advances (hs : s.seq = .tuning) : Meets (Advances s) (ControllerFault s) (pollIteration s) := by
  refine pollIteration_meets.imp (fun t ht => ?_) fun _ hx => hx
  refine ⟨ht.effect.history, ht.effect.coherent, fun inv => ?_⟩
  have pending : t.pending = none := ht.effect.pending.trans (inv.tunePending hs)
  refine ht.effect.invariant inv (p := t.pending) (fun _ => pending) fun tuning => ?_
  obtain ⟨written, polls⟩ := ht.goesOn tuning
  exact ⟨ht.effect.phase (by decide) (inv.tunePhase hs), written (inv.tuneValid hs), polls⟩

/-- R23: a controller step. -/
theorem controllerStep_advances (s : State) : Meets (Advances s) (ControllerFault s) (controllerStep s) := by
  unfold controllerStep
  split
  next _ tuning => exact pollIteration_advances tuning
  next _ idle _ => exact executeWord_advances _ idle
  next => exact Advances.refl s

/-! ### The host's turns -/

theorem noteRead_advances (addr : BitVec 12) (v : Word) (s : State) : Advances s (noteRead addr v s) where

theorem schedule_advances (turns : List Turn) (s : State) : Advances s { s with schedule := turns } where

/-- R63: a command is accepted only when no tune is in progress. -/
theorem issueCommand_advances (w : Word) (s : State) : Advances s (issueCommand w s) := by
  unfold issueCommand
  split
  next => exact {}
  next notBusy =>
    have notTuning : s.seq ≠ .tuning := fun tuning => notBusy (by simp [busy, tuning])
    exact { invariant := fun h =>
      ⟨h.params, h.pty, fun tuning => absurd tuning notTuning, h.tunePhase, h.tuneValid, h.tunePolls⟩ }

theorem writeReg_advances (r : HostReg) (v : Word) (s : State) : Advances s (writeReg r v s) := by
  cases r with
  | cmd => exact issueCommand_advances v s
  | arg | xbuf => exact {}
  | result | status | edge | ptyreg | shadow | ps | rt | reserved => exact Advances.refl s

theorem hostReadTurn_advances (addr : BitVec 12) (width : Nat) (s : State) :
    Meets (Advances s) (fun _ => True) (hostReadTurn addr width s) := by
  unfold hostReadTurn
  split
  · exact noteRead_advances addr _ s
  · trivial

theorem hostWrite_advances (addr : BitVec 12) (width : Nat) (value : Word) (s : State) :
    Meets (Advances s) (fun _ => True) (hostWrite addr width value s) := by
  unfold hostWrite
  split
  · exact writeReg_advances _ value s
  · trivial

theorem hostWaitTurn_advances (s : State) : Meets (Advances s) (fun _ => True) (hostWaitTurn s) := by
  have noted := noteRead_advances statusAddr (statusWord s) s
  change Advances s (if busy s then _ else _)
  split
  · exact noted.trans (schedule_advances _ _)
  · exact noted

/-! ### A step -/

/-- R44, R270: a power-on reset leaves no tune in progress and PTY -1. -/
theorem invariant_powerOnReset (n : Nat) (hs : Invariant s) : Invariant (powerOnReset n s) where
  params := hs.params
  pty := rfl
  tunePending := Seq.noConfusion
  tunePhase := Seq.noConfusion
  tuneValid := Seq.noConfusion
  tunePolls := Seq.noConfusion

theorem step_of_nextTurn {turn : Turn} (h : nextTurn s = turn) : step s = takeTurn turn (takeOff s) := by rw [step, h]

theorem step_of_controller (h : nextTurn s = .controller) : step s = controllerStep (takeOff s) := step_of_nextTurn h

theorem step_of_powerOnReset {n : Nat} (h : nextTurn s = .powerOnReset n) : step s = .next (powerOnReset n (takeOff s)) :=
  step_of_nextTurn h

theorem step_of_hostRead {addr : BitVec 12} {width : Nat} (h : nextTurn s = .hostRead addr width) :
    step s = hostReadTurn addr width (takeOff s) := step_of_nextTurn h

theorem takeTurn_advances (turn : Turn) (hturn : ∀ n, turn ≠ .powerOnReset n) (s : State) :
    Meets (Advances s) (fun _ => True) (takeTurn turn s) := by
  cases turn with
  | hostRead addr width => exact hostReadTurn_advances addr width s
  | hostWrite addr width value => exact hostWrite_advances addr width value s
  | hostWait => exact hostWaitTurn_advances s
  | controller => exact (controllerStep_advances s).imp (fun _ h => h) fun _ _ => trivial
  | powerOnReset n => exact absurd rfl (hturn n)

theorem step_advances (hturn : ∀ n, nextTurn s ≠ .powerOnReset n) (h : step s = .next t) : Advances s t :=
  (schedule_advances s.schedule.tail s).trans ((takeTurn_advances _ hturn (takeOff s)).of_next h)

theorem nextTurn_ne_powerOnReset (h : resetsNext s = false) (n : Nat) : nextTurn s ≠ .powerOnReset n := by
  intro hn
  simp [resetsNext, hn] at h

end

/-- Settles O58: a power-on reset starts the invariant anew, and every other turn keeps it. -/
theorem stepKeepsInvariant : Obligations.StepKeepsInvariant := by
  intro s t hs h
  by_cases hturn : ∃ n, nextTurn s = .powerOnReset n
  · obtain ⟨n, hn⟩ := hturn
    rw [step_of_powerOnReset hn] at h
    cases h
    exact invariant_powerOnReset n ((schedule_advances s.schedule.tail s).invariant hs)
  · exact (step_advances (not_exists.mp hturn) h).invariant hs

/-- Settles O59: a transaction ends with a stop, which agrees with Idle, and any other event leaves another phase. -/
theorem stepKeepsBusCoherent : Obligations.StepKeepsBusCoherent :=
  fun _ _ hs hturn h => (step_advances (nextTurn_ne_powerOnReset hturn) h).coherent hs

/-- Settles O56. -/
theorem historyOnlyGrows : Obligations.HistoryOnlyGrows :=
  fun _ _ hturn h => (step_advances (nextTurn_ne_powerOnReset hturn) h).history

/-- Settles O60: the faults of a controller step are those of `ControllerFault`. -/
theorem writtenShadowStepsOn : Obligations.WrittenShadowStepsOn := by
  intro s written hturn
  rw [step_of_controller hturn]
  have met := controllerStep_advances (takeOff s)
  cases hr : controllerStep (takeOff s) with
  | next t => exact .inl rfl
  | fault x =>
    rw [hr] at met
    exact .inr ((met written).imp (congrArg _) (congrArg _))
  | refused x => rw [hr] at met; exact met.elim

/-! ### RF_SET and the writes of a command -/

/-- R155: RF_SET changes no register and no mark but those of its operand, one of 2 to 7. -/
def OthersKept (s t : State) : Prop :=
  ∀ j, (j ≠ s.larg[0].toNat ∨ j < 2 ∨ 7 < j) → t.shadow[j]? = s.shadow[j]? ∧ t.valid[j]? = s.valid[j]?

theorem indexOperand_of_legal {s : State} (h : operandsLegal .rfSet s = true) :
    2 ≤ s.larg[0].toNat ∧ s.larg[0].toNat ≤ 7 := by
  simp only [operandsLegal, operandForms, List.all_cons, List.all_nil, formLegal, Bool.and_eq_true,
    decide_eq_true_eq] at h
  obtain ⟨index, -⟩ := h
  exact index

theorem execRfSet_othersKept (s : State) : Meets (OthersKept s) (fun _ => False) (execRfSet s) := by
  refine meets_guarded (fun _ _ _ => ⟨rfl, rfl⟩) fun legal _ j hj => ?_
  obtain ⟨low, high⟩ := indexOperand_of_legal legal
  have index : (indexOperand 0 s).val = s.larg[0].toNat :=
    Nat.mod_eq_of_lt (show s.larg[0].toNat < 16 by omega)
  have other : (indexOperand 0 s).val ≠ j := by rw [index]; omega
  exact ⟨Vector.getElem?_set_ne (indexOperand 0 s).isLt other, Vector.getElem?_set_ne (indexOperand 0 s).isLt other⟩

/-- R35, R36: a command other than RF_SET that changes the shadow file refreshes, and has written it whole. -/
theorem Effect.fileWritten_of_changed {i : Instr} {s t : State} (h : Effect (MayWrite i) s t) (hi : i ≠ .rfSet)
    (hchanged : t.shadow ≠ s.shadow ∨ t.valid ≠ s.valid) : i ∈ writers .file ∧ FileWritten t := by
  rcases h.file (by simpa [MayWrite, writers] using hi) with ⟨shadow, valid⟩ | written
  · exact absurd valid (hchanged.resolve_left (not_not_intro shadow))
  · exact written

theorem not_mayWrite {p : Part} {l : List Instr} (h : ∀ i ∈ l, i ∉ writers p) {i : Instr} (hi : i ∈ l) :
    ¬ MayWrite i p := h i hi

/-- Settles O55: the parts of the state and who writes them (`exec_writes`), and the one register of RF_SET. -/
theorem commandsWriteOnlyTheirOwnState : Obligations.CommandsWriteOnlyTheirOwnState := by
  rintro i s t _ rfl h
  have effect : Effect (MayWrite i) s t := (exec_writes i s).of_next h
  have setRegister : i = .rfSet → OthersKept s t := by
    rintro rfl; exact (execRfSet_othersKept s).of_next h
  have host := effect.host
  simp only [hostSide, HostSide.mk.injEq] at host
  obtain ⟨arg, larg, pending, drop, params, schedule, hostReads⟩ := host
  refine ⟨arg, larg, pending, drop, params, schedule, hostReads, fun changed => ?_, fun changed => ?_, fun changed => ?_,
    fun changed => ?_, fun changed => ?_, fun hi j hj => setRegister hi j (.inl hj), fun ⟨j, outside, changed⟩ => ?_,
    fun whole => ?_, fun noBus => ?_⟩
  · by_contra n
    obtain ⟨xbuf, xvalid⟩ := effect.xbuf n
    exact changed.elim (· xbuf) (· xvalid)
  · by_contra n
    exact changed (effect.detector n)
  · by_contra n
    have kept := effect.decoder n
    simp only [decoderSide, Prod.mk.injEq] at kept
    tauto
  · by_contra n
    obtain ⟨seq, polls⟩ := effect.sequencer (by simpa [MayWrite, writers] using n)
    exact changed.elim (· seq) (· polls)
  · by_cases hi : i = .rfSet
    · exact .inl hi
    · exact .inr (effect.fileWritten_of_changed hi changed)
  · by_cases hi : i = .rfSet
    · exact absurd (setRegister hi j (.inr outside)).1 changed
    · exact effect.fileWritten_of_changed hi (.inl fun shadow => changed (by rw [shadow]))
  · exact effect.phase (not_mayWrite (by decide) whole)
  · simpa only [busSide, Prod.mk.injEq] using effect.bus (not_mayWrite (by decide) noBus)

/-! ### The fields of a register (R34) -/

/-- The mask that selects one bit. -/
theorem getLsbD_bitMask {i j : Nat} (hj : j < 16) : (1#16 <<< i).getLsbD j = decide (j = i) := by
  rw [BitVec.getLsbD_shiftLeft, BitVec.getLsbD_one]
  grind

/-- The mask that selects a field of ten bits. -/
theorem getLsbD_fieldMask {place j : Nat} (hj : j < 16) :
    (0x03FF#16 <<< place).getLsbD j = decide (place ≤ j ∧ j < place + 10) := by
  have ones : (0x03FF#16).getLsbD (j - place) = decide (j - place < 10) := by
    rw [show 0x03FF#16 = (BitVec.allOnes 10).setWidth 16 from rfl, BitVec.getLsbD_setWidth, BitVec.getLsbD_allOnes]
    grind
  rw [BitVec.getLsbD_shiftLeft, ones]
  grind

theorem getLsbD_setBit (v : Half) {i j : Nat} (b : Bool) (hj : j < 16) :
    (setBit v i b).getLsbD j = if j = i then b else v.getLsbD j := by
  cases b with
  | true =>
    rw [setBit, if_pos rfl, BitVec.getLsbD_or, getLsbD_bitMask hj]
    by_cases h : j = i <;> simp [h]
  | false =>
    rw [setBit, if_neg Bool.false_ne_true, BitVec.getLsbD_and, BitVec.getLsbD_not, getLsbD_bitMask hj]
    by_cases h : j = i <;> simp [h, hj]

/-- A channel at its place is 0 outside its field. -/
theorem getLsbD_placedChannel {place j : Nat} (c : BitVec 10) (hj : j < 16) :
    (c.setWidth 16 <<< place).getLsbD j = (decide (place ≤ j ∧ j < place + 10) && c.getLsbD (j - place)) := by
  rw [BitVec.getLsbD_shiftLeft, BitVec.getLsbD_setWidth]
  by_cases above : j < place + 10
  · grind
  · rw [BitVec.getLsbD_of_ge c (j - place) (by omega), Bool.and_false, Bool.and_false, Bool.and_false]

theorem getLsbD_setChannel (v : Half) {place j : Nat} (c : BitVec 10) (hj : j < 16) :
    (setChannel v place c).getLsbD j =
      if place ≤ j ∧ j < place + 10 then c.getLsbD (j - place) else v.getLsbD j := by
  rw [setChannel, BitVec.getLsbD_or, BitVec.getLsbD_and, BitVec.getLsbD_not, getLsbD_fieldMask hj,
    getLsbD_placedChannel c hj]
  by_cases inside : place ≤ j ∧ j < place + 10
  · rw [if_pos inside, decide_eq_true inside, Bool.not_true, Bool.and_false, Bool.and_false, Bool.false_or, Bool.true_and]
  · rw [if_neg inside, decide_eq_false inside, decide_eq_true hj, Bool.not_false, Bool.and_self, Bool.and_true,
      Bool.false_and, Bool.or_false]

/-- Settles O32. -/
theorem fieldUpdatesCarryOtherBits : Obligations.FieldUpdatesCarryOtherBits :=
  ⟨fun v _ _ b _ hj => getLsbD_setBit v b hj, fun v _ _ c _ hj => getLsbD_setChannel v c hj⟩

/-! ### STATUS, EDGE and PTYREG (R24-R27) -/

theorem busy_eq (s : State) : busy s = decide (s.pending ≠ none ∨ s.seq = .tuning) := by
  unfold busy
  cases s.pending <;> simp

section
variable (s : State)

theorem statusWord_bsc : (statusWord s).extractLsb' 0 8 = s.bsc := BitVec.extractLsb'_append_eq_right

theorem statusWord_busy : (statusWord s).getLsbD 8 = busy s := by
  unfold statusWord
  rw [BitVec.getLsbD_append, BitVec.getLsbD_append]
  simp

theorem statusWord_drop : (statusWord s).getLsbD 9 = s.drop := by
  unfold statusWord
  rw [BitVec.getLsbD_append, BitVec.getLsbD_append, BitVec.getLsbD_append]
  simp

/-- From bit 10 on, STATUS is the reserved bits 11:10, ERR, PHASE and the reserved bits 31:19. -/
theorem statusWord_above_drop {start : Nat} (len : Nat) (h : 10 ≤ start) : (statusWord s).extractLsb' start len =
    (0#13 ++ phaseCode s.phase ++ errCode s.err ++ 0#2).extractLsb' (start - 10) len := by
  unfold statusWord
  rw [BitVec.extractLsb'_append_eq_of_le (by omega), BitVec.extractLsb'_append_eq_of_le (by omega),
    BitVec.extractLsb'_append_eq_of_le (by omega), show start - 8 - 1 - 1 = start - 10 by omega]

theorem statusWord_reserved_low : (statusWord s).extractLsb' 10 2 = 0 := by
  rw [statusWord_above_drop s 2 (by decide)]
  exact BitVec.extractLsb'_append_eq_right

theorem statusWord_err : (statusWord s).extractLsb' 12 4 = errCode s.err := by
  rw [statusWord_above_drop s 4 (by decide), BitVec.extractLsb'_append_eq_of_le (by decide)]
  exact BitVec.extractLsb'_append_eq_right

theorem statusWord_phase : (statusWord s).extractLsb' 16 3 = phaseCode s.phase := by
  rw [statusWord_above_drop s 3 (by decide), BitVec.extractLsb'_append_eq_of_le (by decide),
    BitVec.extractLsb'_append_eq_of_le (by decide)]
  exact BitVec.extractLsb'_append_eq_right

theorem statusWord_reserved_high : (statusWord s).extractLsb' 19 13 = 0 := by
  rw [statusWord_above_drop s 13 (by decide), BitVec.extractLsb'_append_eq_of_le (by decide),
    BitVec.extractLsb'_append_eq_of_le (by decide)]
  exact BitVec.extractLsb'_append_eq_left

theorem edgeWord_detector : (edgeWord s).getLsbD 0 = decide (s.readyEdge = .armedForFall) := by
  unfold edgeWord
  rw [BitVec.getLsbD_append]
  simp

theorem edgeWord_textAB : (edgeWord s).getLsbD 1 = s.textAB := by
  unfold edgeWord
  rw [BitVec.getLsbD_append, BitVec.getLsbD_append]
  simp

theorem edgeWord_reserved : (edgeWord s).extractLsb' 2 30 = 0 := by
  unfold edgeWord
  rw [BitVec.extractLsb'_append_eq_of_le (by decide)]
  exact BitVec.extractLsb'_append_eq_left

/-- R27: a PTY of 0 to 31 has its sign bit clear. -/
theorem ptyWord_of_lt (h : s.pty.toNat < 32) : ptyWord s = BitVec.ofNat 32 s.pty.toNat := by
  have sign : s.pty.msb = false := by rw [BitVec.msb_eq_false_iff_two_mul_lt]; omega
  rw [ptyWord, BitVec.signExtend_eq_setWidth_of_msb_false sign]
  exact BitVec.eq_of_toNat_eq (by simp)

end

/-- Settles O10, field by field. -/
theorem statusEdgeAndPtyregViews : Obligations.StatusEdgeAndPtyregViews := by
  refine fun s v => ⟨⟨statusWord s, rfl, rfl, statusWord_bsc s, (statusWord_busy s).trans (busy_eq s), statusWord_drop s,
    statusWord_reserved_low s, (statusWord_err s).trans ?_, (statusWord_phase s).trans ?_, statusWord_reserved_high s⟩,
    ⟨edgeWord s, rfl, rfl, edgeWord_detector s, edgeWord_textAB s, edgeWord_reserved s⟩, rfl, rfl,
    fun unknown => ?_, fun known => congrArg Except.ok (ptyWord_of_lt s known)⟩
  · cases s.err <;> rfl
  · cases s.phase <;> rfl
  · change Except.ok (s.pty.signExtend 32) = _
    rw [unknown]; rfl

/-! ### The turns of a step (R20, R23) -/

/-- Settles O4. -/
theorem stepRunsDecodedCommand : Obligations.StepRunsDecodedCommand := by
  intro s w i idle pending hturn hdecode
  have word : controllerStep (takeOff s) = executeWord w (takeOff s) := by
    simp only [controllerStep, takeOff, idle, pending]
  rw [step_of_controller hturn, word, executeWord, hdecode]
  rfl

/-- R65: what the host reads does not depend on the turns to come. -/
theorem hostRead_takeOff (addr : BitVec 12) (width : Nat) (s : State) :
    hostRead addr width (takeOff s) = hostRead addr width s := rfl

/-- Settles O5, one turn after the other. -/
theorem otherTurnsOfAStep : Obligations.OtherTurnsOfAStep := by
  refine fun s => ⟨fun idle pending hturn => ?_, fun addr width hturn => ⟨fun v hv => ?_, fun x hx => ?_⟩,
    fun addr width value hturn => step_of_nextTurn hturn, fun hturn st hst => ?_⟩
  · rw [step_of_controller hturn]
    simp only [controllerStep, takeOff, idle, pending]
  · rw [step_of_hostRead hturn, hostReadTurn, hostRead_takeOff, hv]
    rfl
  · rw [step_of_hostRead hturn, hostReadTurn, hostRead_takeOff, hx]
  · obtain rfl : statusWord s = st := Except.ok.inj hst
    rw [step_of_nextTurn hturn, statusWord_busy]
    refine ⟨by rw [busy_eq, decide_eq_true_eq], fun h => ?_, fun h => ?_⟩
    · exact congrArg Host.Outcome.next (if_pos h)
    · exact congrArg Host.Outcome.next (if_neg (ne_true_of_eq_false h))

/-! ### Power-on reset (R44, R270, R271) -/

theorem invariant_reset : Invariant State.reset where
  params := wellFormedParams_defaultParams
  pty := rfl
  tunePending := Seq.noConfusion
  tunePhase := Seq.noConfusion
  tuneValid := Seq.noConfusion
  tunePolls := Seq.noConfusion

theorem busCoherent_reset : BusCoherent State.reset where
  phase := iff_of_true rfl rfl
  code := rfl

/-- Settles O53. -/
theorem resetValues : Obligations.ResetValues :=
  ⟨rfl, rfl, rfl, rfl, rfl, rfl, rfl, rfl, rfl, rfl, rfl, rfl, rfl, rfl, rfl, rfl, rfl, rfl, rfl, rfl⟩

/-- Settles O57. -/
theorem resetMeetsTheInvariants : Obligations.ResetMeetsTheInvariants := ⟨invariant_reset, busCoherent_reset⟩

theorem drawsAnswer_eq : drawsAnswer = fun e => decide (e ≠ .stop) := by
  funext e
  cases e <;> rfl

theorem powerOnReset_of_not_busy {s : State} (n : Nat) (h : busy s = false) :
    powerOnReset n s = { State.reset with
      bsc := s.params.sc.noInfo, params := s.params, answers := s.answers, draws := s.draws, schedule := s.schedule,
      hostReads := s.hostReads } := by
  simp [powerOnReset, h, State.reset]

/-- R271: the history of an abandoned command. -/
theorem powerOnReset_of_busy {s : State} (n : Nat) (h : busy s = true) (k : Nat)
    (hk : k = ((eventsBeforeReset n s).filter drawsAnswer).length) :
    powerOnReset n s = { State.reset with
      bsc := s.params.sc.noInfo, history := s.history ++ eventsBeforeReset n s, params := s.params,
      answers := s.answers.drop k, draws := s.draws + k, schedule := s.schedule, hostReads := s.hostReads } := by
  simp [powerOnReset, h, hk]

theorem eventsBeforeReset_next {s t : State} {sent : List BusEvent} (n : Nat) (h : controllerStep s = .next t)
    (hsent : t.history = s.history ++ sent) : eventsBeforeReset n s = sent.take n := by
  rw [eventsBeforeReset, h]
  simp [hsent]

theorem eventsBeforeReset_fault {s : State} {x : Fault} (n : Nat) (h : controllerStep s = .fault x) :
    eventsBeforeReset n s = [] := by
  rw [eventsBeforeReset, h]

/-- Settles O54: nothing in progress, a step cut after `n` events, and a step that would have stopped. -/
theorem powerOnResetAbandonsTheCommand : Obligations.PowerOnResetAbandonsTheCommand := by
  intro s n hturn
  rw [step_of_powerOnReset hturn]
  refine ⟨fun idle => ?_, fun inProgress t sent ht hsent k hk => ?_, fun inProgress x hx => ?_⟩
  · exact congrArg _ (powerOnReset_of_not_busy (s := takeOff s) n idle)
  · have events : eventsBeforeReset n (takeOff s) = sent.take n := eventsBeforeReset_next n ht hsent
    rw [powerOnReset_of_busy (s := takeOff s) n inProgress k (by rw [hk, events, drawsAnswer_eq]), events]
    rfl
  · have events : eventsBeforeReset n (takeOff s) = [] := eventsBeforeReset_fault n hx
    rw [powerOnReset_of_busy (s := takeOff s) n inProgress 0 (by rw [events]; rfl), events]
    simp [takeOff]

end Sys2Proof.Machine

/-! PROOFS. Family 20_memory: the shape of a host access, the register an address selects, and what reads and writes
of each register do (R60-R65). -/
namespace Sys2Proof.Machine
open Sys2Proof

/-! ### The shape of an access (R62) -/

theorem accessShape_iff (addr : BitVec 12) (width : Nat) :
    accessShape addr width = true ↔ width = 4 ∧ addr.extractLsb' 0 2 = 0 := by
  rw [accessShape, Bool.and_eq_true, decide_eq_true_eq, decide_eq_true_eq]

section
variable {addr : BitVec 12} {width : Nat}

theorem accessShape_eq_false (h : width ≠ 4 ∨ addr.extractLsb' 0 2 ≠ 0) : accessShape addr width = false := by
  rw [← Bool.not_eq_true, accessShape_iff]
  exact not_and_or.mpr h

theorem hostRead_misshapen (h : accessShape addr width = false) (s : State) :
    hostRead addr width s = .error .hostAccessShape := by rw [hostRead, if_neg (ne_true_of_eq_false h)]

theorem hostWrite_misshapen (h : accessShape addr width = false) (v : Word) (s : State) :
    hostWrite addr width v s = .fault .hostAccessShape := by rw [hostWrite, if_neg (ne_true_of_eq_false h)]

theorem hostRead_aligned (h : addr.extractLsb' 0 2 = 0) (s : State) : hostRead addr 4 s = readReg (hostReg addr) s :=
  if_pos ((accessShape_iff addr 4).mpr ⟨rfl, h⟩)

theorem hostWrite_aligned (h : addr.extractLsb' 0 2 = 0) (v : Word) (s : State) :
    hostWrite addr 4 v s = .next (writeReg (hostReg addr) v s) :=
  if_pos ((accessShape_iff addr 4).mpr ⟨rfl, h⟩)

end

/-! ### The host register map (R61) -/

/-- An aligned address of the host register map and the register it reaches. -/
structure Selects (addr : BitVec 12) (r : HostReg) : Prop where
  aligned : addr.extractLsb' 0 2 = 0
  reg : hostReg addr = r

theorem Selects.hostRead {addr : BitVec 12} {r : HostReg} (h : Selects addr r) (s : State) :
    hostRead addr 4 s = readReg r s := by rw [hostRead_aligned h.aligned, h.reg]

theorem Selects.hostWrite {addr : BitVec 12} {r : HostReg} (h : Selects addr r) (v : Word) (s : State) :
    hostWrite addr 4 v s = .next (writeReg r v s) := by rw [hostWrite_aligned h.aligned, h.reg]

/-- R61: the windows begin at multiples of four and hold a register in every fourth byte address. -/
theorem window_aligned {base k : Nat} (hbase : base % 4 = 0) : (BitVec.ofNat 12 (base + 4 * k)).extractLsb' 0 2 = 0 := by
  apply BitVec.eq_of_toNat_eq
  rw [BitVec.extractLsb'_toNat, BitVec.toNat_ofNat, Nat.shiftRight_zero]
  change _ = 0
  omega

theorem selects_cmd : Selects 0x000 .cmd := ⟨rfl, rfl⟩
theorem selects_result : Selects 0x014 .result := ⟨rfl, rfl⟩
theorem selects_status : Selects 0x018 .status := ⟨rfl, rfl⟩
theorem selects_edge : Selects 0x01C .edge := ⟨rfl, rfl⟩
theorem selects_ptyreg : Selects 0x020 .ptyreg := ⟨rfl, rfl⟩

theorem selects_arg (i : Fin 4) : Selects (BitVec.ofNat 12 (0x004 + 4 * i.val)) (.arg i) :=
  ⟨window_aligned rfl, by decide +revert⟩

theorem selects_xbuf (i : Fin 32) : Selects (BitVec.ofNat 12 (0x100 + 4 * i.val)) (.xbuf i) :=
  ⟨window_aligned rfl, by decide +revert⟩

theorem selects_shadow (i : Fin 16) : Selects (BitVec.ofNat 12 (0x180 + 4 * i.val)) (.shadow i) :=
  ⟨window_aligned rfl, by decide +revert⟩

theorem selects_ps (i : Fin 8) : Selects (BitVec.ofNat 12 (0x1C0 + 4 * i.val)) (.ps i) :=
  ⟨window_aligned rfl, by decide +revert⟩

theorem selects_rt (i : Fin 64) : Selects (BitVec.ofNat 12 (0x200 + 4 * i.val)) (.rt i) :=
  ⟨window_aligned rfl, by decide +revert⟩

section
variable (addr : BitVec 12)

/-- The map of R61 from the address side: what holds of the register in each row holds of the one `addr` reaches. -/
theorem hostReg_rows {P : HostReg → Prop} (cmd : addr.toNat < 0x004 → P .cmd)
    (arg : ∀ i, 0x004 ≤ addr.toNat → addr.toNat < 0x014 → P (.arg i))
    (result : 0x014 ≤ addr.toNat → addr.toNat < 0x018 → P .result)
    (status : 0x018 ≤ addr.toNat → addr.toNat < 0x01C → P .status)
    (edge : 0x01C ≤ addr.toNat → addr.toNat < 0x020 → P .edge)
    (ptyreg : 0x020 ≤ addr.toNat → addr.toNat < 0x024 → P .ptyreg)
    (xbuf : ∀ i, 0x100 ≤ addr.toNat → addr.toNat < 0x180 → P (.xbuf i))
    (shadow : ∀ i, 0x180 ≤ addr.toNat → addr.toNat < 0x1C0 → P (.shadow i))
    (ps : ∀ i, 0x1C0 ≤ addr.toNat → addr.toNat < 0x1E0 → P (.ps i))
    (rt : ∀ i, 0x200 ≤ addr.toNat → addr.toNat < 0x300 → P (.rt i))
    (reserved : (0x024 ≤ addr.toNat ∧ addr.toNat < 0x100) ∨ (0x1E0 ≤ addr.toNat ∧ addr.toNat < 0x200) ∨
      0x300 ≤ addr.toNat → P .reserved) : P (hostReg addr) :=
  iteInduction (fun _ => cmd (by omega)) fun _ =>
  iteInduction (fun _ => arg _ (by omega) (by omega)) fun _ =>
  iteInduction (fun _ => result (by omega) (by omega)) fun _ =>
  iteInduction (fun _ => status (by omega) (by omega)) fun _ =>
  iteInduction (fun _ => edge (by omega) (by omega)) fun _ =>
  iteInduction (fun _ => ptyreg (by omega) (by omega)) fun _ =>
  iteInduction (fun _ => reserved (by omega)) fun _ =>
  iteInduction (fun _ => xbuf _ (by omega) (by omega)) fun _ =>
  iteInduction (fun _ => shadow _ (by omega) (by omega)) fun _ =>
  iteInduction (fun _ => ps _ (by omega) (by omega)) fun _ =>
  iteInduction (fun _ => reserved (by omega)) fun _ =>
  iteInduction (fun _ => rt _ (by omega) (by omega)) fun _ => reserved (by omega)

/-- R61's reserved rows: three windows and no other address. -/
theorem hostReg_eq_reserved_iff :
    hostReg addr = .reserved ↔
      (0x024 ≤ addr.toNat ∧ addr.toNat < 0x100) ∨ (0x1E0 ≤ addr.toNat ∧ addr.toNat < 0x200) ∨ 0x300 ≤ addr.toNat := by
  apply hostReg_rows addr (P := fun r => r = .reserved ↔ _)
  case reserved => exact iff_of_true rfl
  all_goals intros; refine iff_of_false HostReg.noConfusion ?_; omega

/-- The registers marked W in R61. -/
def hostWritable : HostReg → Bool
  | .cmd | .arg _ | .xbuf _ => true
  | .result | .status | .edge | .ptyreg | .shadow _ | .ps _ | .rt _ | .reserved => false

/-- R61's rows marked W: CMD and ARG, and XBUF. -/
theorem hostWritable_hostReg_iff :
    hostWritable (hostReg addr) = true ↔ addr.toNat < 0x014 ∨ (0x100 ≤ addr.toNat ∧ addr.toNat < 0x180) := by
  apply hostReg_rows addr (P := fun r => hostWritable r = true ↔ _)
  case cmd | arg | xbuf => intros; refine iff_of_true rfl ?_; omega
  all_goals intros; refine iff_of_false Bool.noConfusion ?_; omega

end

/-- R62: a write to any other register is ignored. -/
theorem writeReg_of_not_writable {r : HostReg} (h : hostWritable r = false) (v : Word) (s : State) :
    writeReg r v s = s := by
  cases r with
  | cmd | arg | xbuf => cases h
  | result | status | edge | ptyreg | shadow | ps | rt | reserved => rfl

theorem hostRead_reserved {addr : BitVec 12} (haligned : addr.extractLsb' 0 2 = 0)
    (h : (0x024 ≤ addr.toNat ∧ addr.toNat ≤ 0x0FC) ∨ (0x1E0 ≤ addr.toNat ∧ addr.toNat ≤ 0x1FC) ∨ 0x300 ≤ addr.toNat)
    (s : State) : hostRead addr 4 s = .ok 0 :=
  Selects.hostRead ⟨haligned, (hostReg_eq_reserved_iff addr).mpr (by omega)⟩ s

theorem hostWrite_ignored {addr : BitVec 12} (haligned : addr.extractLsb' 0 2 = 0)
    (h : (0x014 ≤ addr.toNat ∧ addr.toNat ≤ 0x0FC) ∨ 0x180 ≤ addr.toNat) (v : Word) (s : State) :
    hostWrite addr 4 v s = .next s := by
  have notWritable : hostWritable (hostReg addr) = false := by
    rw [← Bool.not_eq_true, hostWritable_hostReg_iff]
    omega
  rw [hostWrite_aligned haligned, writeReg_of_not_writable notWritable]

/-- Settles O8. -/
theorem hostAccessShapeAndReservedAddresses : Obligations.HostAccessShapeAndReservedAddresses := by
  refine fun s addr width v => ⟨fun misshapen => ?_, fun aligned => ⟨fun reserved => ?_, fun ignored => ?_⟩⟩
  · have shape := accessShape_eq_false misshapen
    exact ⟨hostRead_misshapen shape s, hostWrite_misshapen shape v s⟩
  · exact hostRead_reserved aligned reserved s
  · exact hostWrite_ignored aligned ignored v s

/-! ### Writes (R23, R63, R64) -/

theorem issueCommand_of_not_busy {s : State} (h : busy s = false) (w : Word) :
    issueCommand w s = { s with pending := some w, larg := s.arg, drop := false } := if_neg (ne_true_of_eq_false h)

theorem issueCommand_of_busy {s : State} (h : busy s = true) (w : Word) : issueCommand w s = { s with drop := true } :=
  if_pos h

/-- Settles O6. -/
theorem cmdWriteIsAcceptedOrDropped : Obligations.CmdWriteIsAcceptedOrDropped := by
  refine fun s w => ⟨fun notPending idle => ?_, fun inProgress => ?_⟩
  · have notBusy : busy s = false := by simp [busy, notPending, idle]
    rw [selects_cmd.hostWrite, writeReg, issueCommand_of_not_busy notBusy]
  · have isBusy : busy s = true := by rwa [busy_eq, decide_eq_true_eq]
    rw [selects_cmd.hostWrite, writeReg, issueCommand_of_busy isBusy]

/-- Settles O7. -/
theorem argAndXbufWritesStore : Obligations.ArgAndXbufWritesStore :=
  fun s v => ⟨fun i => (selects_arg i).hostWrite v s, fun i => (selects_xbuf i).hostWrite v s⟩

/-! ### Reads (R65) -/

/-- R65: a read that answers leaves a note of the value and does nothing else. -/
theorem hostReadTurn_next {addr : BitVec 12} {width : Nat} {s t : State} (h : hostReadTurn addr width s = .next t) :
    ∃ v, hostRead addr width s = .ok v ∧ t = noteRead addr v s := by
  unfold hostReadTurn at h
  split at h
  next v hv => exact ⟨v, hv, (Host.Outcome.next.inj h).symm⟩
  next => cases h

theorem hostReadTurn_frame {addr : BitVec 12} {width : Nat} {s t : State} (h : hostReadTurn addr width s = .next t) :
    t = { s with hostReads := t.hostReads } := by
  obtain ⟨v, -, rfl⟩ := hostReadTurn_next h
  rfl

/-- Settles O9, one row of R61 after the other. -/
theorem hostReadReturnsTheRegister : Obligations.HostReadReturnsTheRegister := fun s =>
  ⟨selects_cmd.hostRead s, fun i => (selects_arg i).hostRead s, selects_result.hostRead s, selects_status.hostRead s,
    selects_edge.hostRead s, selects_ptyreg.hostRead s, fun i => (selects_xbuf i).hostRead s,
    fun i => (selects_shadow i).hostRead s, fun i => (selects_ps i).hostRead s, fun i => (selects_rt i).hostRead s,
    fun _ aligned reserved => hostRead_reserved aligned reserved s, fun _ _ _ => hostReadTurn_frame⟩

end Sys2Proof.Machine

/-! PROOFS. Family 30_encoding: the words that decode to a command and the ones that do not, the legal values of each
operand form, and the check of the operands that every command begins with (R90-R98). -/
namespace Sys2Proof.Machine
open Sys2Proof

/-! ### The fields of a word (R90, R93) -/

/-- The bits of a word from `k` up are 0 exactly when its value is below `2 ^ k`. -/
theorem extractLsb'_high_eq_zero_iff (w : Word) {k n : Nat} (h : k + n = 32) :
    w.extractLsb' k n = 0 ↔ w.toNat < 2 ^ k := by
  have quotient : w.toNat / 2 ^ k < 2 ^ n := by
    rw [Nat.div_lt_iff_lt_mul (Nat.two_pow_pos k), ← Nat.pow_add, Nat.add_comm n k, h]
    exact w.isLt
  rw [← BitVec.toNat_inj, BitVec.extractLsb'_toNat, Nat.shiftRight_eq_div_pow, Nat.mod_eq_of_lt quotient]
  change _ = 0 ↔ _
  rw [Nat.div_eq_zero_iff_lt (Nat.two_pow_pos k)]

theorem zeroField_eq_zero_iff (w : Word) : zeroField w = 0 ↔ w.toNat < 256 := extractLsb'_high_eq_zero_iff w rfl

theorem toNat_opcodeField (w : Word) : (opcodeField w).toNat = w.toNat % 256 := by
  rw [opcodeField, BitVec.extractLsb'_toNat, Nat.shiftRight_zero]

theorem toNat_encode (i : Instr) : (encode i).toNat = (opcode i).toNat :=
  BitVec.toNat_setWidth_of_le (by decide)

/-- R95: a word is a command's encoding exactly when its ZERO field is 0 and its OPCODE field holds the opcode. -/
theorem eq_encode_iff (w : Word) (i : Instr) : w = encode i ↔ zeroField w = 0 ∧ opcodeField w = opcode i := by
  have opcode_lt : (opcode i).toNat < 256 := (opcode i).isLt
  rw [zeroField_eq_zero_iff, ← BitVec.toNat_inj, ← BitVec.toNat_inj, toNat_opcodeField, toNat_encode]
  omega

/-! ### The opcode map (R92, R98) -/

/-- R92: each row of the opcode map, read in both directions. -/
theorem instrOfOpcode_eq_some_iff {op : Byte} {i : Instr} : instrOfOpcode op = some i ↔ op = opcode i := by
  refine ⟨fun h => ?_, fun h => ?_⟩
  · unfold instrOfOpcode at h
    split at h <;> cases h <;> exact BitVec.eq_of_toNat_eq ‹_›
  · subst h
    cases i <;> rfl

/-- R98: the opcodes that the map leaves unassigned. -/
theorem instrOfOpcode_eq_none_iff (op : Byte) :
    instrOfOpcode op = none ↔
      op.toNat ≤ 0x0F ∨ (0x18 ≤ op.toNat ∧ op.toNat ≤ 0x1F) ∨ (0x23 ≤ op.toNat ∧ op.toNat ≤ 0x2F) ∨
        0x43 ≤ op.toNat := by
  unfold instrOfOpcode
  split
  case h_31 => -- no row of the map
    refine iff_of_true rfl ?_
    simp only [imp_false] at *
    omega
  all_goals exact iff_of_false (Option.some_ne_none _) (by omega)

/-! ### Decoding (R91, R98) -/

theorem decode_eq_ok_iff (w : Word) (i : Instr) :
    decode w = .ok i ↔ zeroField w = 0 ∧ instrOfOpcode (opcodeField w) = some i := by
  unfold decode
  split
  next nonzero => exact iff_of_false nofun fun legal => nonzero legal.1
  next zero =>
    rw [not_ne_iff] at zero
    cases instrOfOpcode (opcodeField w) <;> simp [zero]

theorem decode_eq_error_iff (w : Word) :
    (∃ e, decode w = .error e) ↔ zeroField w ≠ 0 ∨ instrOfOpcode (opcodeField w) = none := by
  unfold decode
  split
  next nonzero => exact iff_of_true ⟨_, rfl⟩ (.inl nonzero)
  next zero =>
    rw [or_iff_right zero]
    cases instrOfOpcode (opcodeField w) <;> simp

/-- Settles O1: both sides ask for a ZERO field of 0 and the command's opcode. -/
theorem decodeAndEncodeAgree : Obligations.DecodeAndEncodeAgree := fun w i => by
  rw [decode_eq_ok_iff, instrOfOpcode_eq_some_iff, eq_encode_iff]

/-- Settles O2: each word is the encoding of its command. -/
theorem tableWordsDecode : Obligations.TableWordsDecode := by
  refine ⟨?_, ?_, ?_, ?_, ?_, ?_⟩
  all_goals exact (decodeAndEncodeAgree _ _).mpr rfl

/-- R23: a controller's turn at a pending word executes it, off the schedule. -/
theorem step_of_pending {s : State} {w : Word} (idle : s.seq = .idle) (pending : s.pending = some w)
    (hturn : nextTurn s = .controller) : step s = executeWord w (takeOff s) := by
  rw [step_of_controller hturn]
  simp only [controllerStep, takeOff, idle, pending]

theorem executeWord_illegal {w : Word} (h : ∃ e, decode w = .error e) (s : State) :
    executeWord w s = .next { s with pending := none, result := 0, err := .illegalCommand } := by
  obtain ⟨e, he⟩ := h
  rw [executeWord, he]
  rfl

/-- Settles O3. -/
theorem illegalWordsRaiseIllegalCommand : Obligations.IllegalWordsRaiseIllegalCommand := by
  refine ⟨fun w => ?_, fun s w idle pending hturn illegal => ?_⟩
  · rw [decode_eq_error_iff, instrOfOpcode_eq_none_iff, zeroField, opcodeField]
  · rw [step_of_pending idle pending hturn, executeWord_illegal illegal]
    rfl

/-! ### The operands of a command (R93, R94, R96) -/

/-- A form that asks for the bits from `k` up to be 0 is legal below `2 ^ k`. -/
theorem high_zero_iff_lt (w : Word) {k n : Nat} (h : k + n = 32) :
    decide (w.extractLsb' k n = 0) = true ↔ w.toNat < 2 ^ k := by
  rw [decide_eq_true_eq, extractLsb'_high_eq_zero_iff w h]

theorem formLegal_count_iff (w : Word) : formLegal .count w = true ↔ w.toNat ≤ 32 := decide_eq_true_iff

theorem formLegal_index_iff (w : Word) : formLegal .index w = true ↔ 2 ≤ w.toNat ∧ w.toNat ≤ 7 := by
  rw [formLegal, Bool.and_eq_true, decide_eq_true_eq, decide_eq_true_eq]

/-- R94: the commands whose row names no operand. -/
theorem operandForms_eq_nil {i : Instr}
    (h : i ∉ [.busAddr, .busSendByte, .busSend, .busRecv, .busWrite, .busRead, .rfSet, .tuneSetFreq, .tunerSetMono,
      .tunerSetSoftmute, .rdsDecode]) : operandForms i = [] := by
  cases i
  case busAddr | busSendByte | busSend | busRecv | busWrite | busRead | rfSet | tuneSetFreq | tunerSetMono
      | tunerSetSoftmute | rdsDecode => exact absurd (by decide) h
  all_goals rfl

/-- Settles O11: the forms in the order of R93, then the rows of R94. -/
theorem operandFormsAreLegalWhen : Obligations.OperandFormsAreLegalWhen :=
  ⟨fun w => ⟨high_zero_iff_lt w rfl, high_zero_iff_lt w rfl, high_zero_iff_lt w rfl, formLegal_count_iff w,
    formLegal_index_iff w, high_zero_iff_lt w rfl, rfl, high_zero_iff_lt w rfl, high_zero_iff_lt w rfl⟩,
    rfl, rfl, rfl, rfl, rfl, rfl, rfl, rfl, rfl, rfl, rfl, fun _ => operandForms_eq_nil⟩

theorem operandsLegal_eq_false_iff (i : Instr) (s : State) :
    operandsLegal i s = false ↔ ∃ o ∈ operandForms i, formLegal o.2 s.larg[o.1] = false := by
  simp only [operandsLegal, List.all_eq_false, Bool.not_eq_true]

/-- R96, R97: every command begins with the two checks. -/
theorem exec_eq_guarded (i : Instr) (s : State) : ∃ body, exec i s = guarded i s body := by
  cases i <;> exact ⟨_, rfl⟩

/-- Settles O12: the operands are checked first, whatever the command's body. -/
theorem illegalOperandHasNoOtherEffect : Obligations.IllegalOperandHasNoOtherEffect := by
  intro i s illegal
  obtain ⟨body, hbody⟩ := exec_eq_guarded i s
  rw [hbody, guarded_illegal_operand i s body ((operandsLegal_eq_false_iff i s).mpr illegal)]

end Sys2Proof.Machine

/-! PROOFS. Family 40_bus: the bus events and the environment's answers (R111-R116), the phase table (R117), the bus
sequences (R119-R122), the bus commands (R123-R130), and the refresh that is answered whole (R151, R152). -/
namespace Sys2Proof.Machine
open Sys2Proof

/-! ### Bus events (R111-R116) -/

/-- R114: the address byte has the slave in bits 7:1. -/
theorem addressByte_slave (slave : BitVec 7) (dir : Bool) : (addressByte slave dir).extractLsb' 1 7 = slave :=
  BitVec.extractLsb'_append_eq_left

/-- R114: the address byte has the direction in bit 0. -/
theorem addressByte_dir (slave : BitVec 7) (dir : Bool) : (addressByte slave dir).getLsbD 0 = dir := by
  rw [addressByte, BitVec.getLsbD_append]
  simp

theorem toNat_addressByte (slave : BitVec 7) (dir : Bool) :
    (addressByte slave dir).toNat = 2 * slave.toNat + dir.toNat := by
  rw [addressByte, BitVec.toNat_append, BitVec.toNat_ofBool,
    ← Nat.shiftLeft_add_eq_or_of_lt (by cases dir <;> decide), Nat.shiftLeft_eq]
  omega

/-- Settles O14: each event is its own definition; the address byte's fields are `addressByte_slave` and
`addressByte_dir`. -/
theorem busEventsAreRecorded : Obligations.BusEventsAreRecorded := by
  intro s
  refine ⟨?_, ?_, ?_, ?_, rfl, fun slave dir => ⟨addressByte_slave slave dir, addressByte_dir slave dir⟩,
    fun r sc data rest => nextAnswer_listed r _ _ rest rfl⟩
  · rintro a rfl; exact busStart_eq s
  · rintro b a rfl; exact busAddr_eq b s
  · rintro b a rfl; exact busTx_eq b s
  · rintro ack a rfl; exact busRx_eq ack s

/-! ### Exchanges: requests answered in turn, up to the first unexpected code -/

/-- One request of a bus sequence, and the code that lets the sequence go on (R119, R120). -/
structure Ask where
  request : BusRequest
  expects : Byte

/-- The event that the history gets for an answered request (R42). -/
def eventOf : BusRequest → BusAnswer → BusEvent
  | .start, a => .start a.sc
  | .addr b, a => .addr b a.sc
  | .tx b, a => .tx b a.sc
  | .rx ack, a => .rx ack a.data a.sc

/-- The state once the environment has answered a request. -/
def answered (r : BusRequest) (s : State) : State := recordEvent (eventOf r (nextAnswer r s)) (nextAnswer r s).sc s

/-- The state once the requests of `asks` have got the answers `got`, the first request the first answer. -/
def afterAnswers (asks : List Ask) (got : List BusAnswer) (s : State) : State :=
  { s with answers := s.answers.drop got.length, draws := s.draws + got.length,
           history := s.history ++ List.zipWith (fun q => eventOf q.request) asks got,
           bsc := (got.map (·.sc)).getLastD s.bsc }

/-- From `s` the requests of `asks` get the answers `got`: the first `k` with the code expected, then, unless the
requests are at an end, one with another code. -/
inductive Exchange : List Ask → State → List BusAnswer → Nat → Prop
  | done (s : State) : Exchange [] s [] 0
  | expected {q : Ask} {asks : List Ask} {s : State} {got : List BusAnswer} {k : Nat}
      (h : (nextAnswer q.request s).sc = q.expects) (rest : Exchange asks (answered q.request s) got k) :
      Exchange (q :: asks) s (nextAnswer q.request s :: got) (k + 1)
  | unexpected {q : Ask} {s : State} (asks : List Ask) (h : (nextAnswer q.request s).sc ≠ q.expects) :
      Exchange (q :: asks) s [nextAnswer q.request s] 0

theorem afterAnswers_nil (asks : List Ask) (s : State) : afterAnswers asks [] s = s := by
  simp [afterAnswers]

theorem afterAnswers_cons (q : Ask) (asks : List Ask) (got : List BusAnswer) (s : State) :
    afterAnswers (q :: asks) (nextAnswer q.request s :: got) s = afterAnswers asks got (answered q.request s) := by
  simp only [afterAnswers, answered, recordEvent, List.length_cons, List.drop_tail, List.map_cons, List.getLastD_cons,
    List.zipWith_cons_cons, List.append_assoc, List.singleton_append, Nat.add_assoc, Nat.add_comm 1]

/-- R113: the answer after `i` draws is the listed one, as long as one is listed. -/
theorem nextAnswer_of_answers_drop {r : BusRequest} {s t : State} {i : Nat} (ht : t.answers = s.answers.drop i)
    (hi : i < s.answers.length) : s.answers[i]? = some (nextAnswer r t) := by
  rw [List.drop_eq_getElem_cons hi] at ht
  rw [nextAnswer_listed r t _ _ ht, List.getElem?_eq_getElem hi]

section
variable {asks : List Ask} {s : State} {got : List BusAnswer} {k : Nat}

theorem Exchange.count_le (h : Exchange asks s got k) : k ≤ asks.length := by
  induction h with
  | done | unexpected => exact Nat.zero_le _
  | expected _ _ ih => exact Nat.succ_le_succ ih

theorem Exchange.length_got (h : Exchange asks s got k) : got.length = min asks.length (k + 1) := by
  induction h with
  | done => rfl
  | expected _ _ ih => rw [List.length_cons, List.length_cons, ih, Nat.succ_min_succ]
  | unexpected => rw [List.length_cons, List.length_cons, Nat.succ_min_succ, Nat.min_zero]; rfl

theorem Exchange.length_got_le (h : Exchange asks s got k) : got.length ≤ asks.length :=
  h.length_got.trans_le (Nat.min_le_left _ _)

theorem Exchange.code_expected (h : Exchange asks s got k) {i : Nat} (hi : i < k) :
    got[i]?.map (·.sc) = asks[i]?.map (·.expects) := by
  induction h generalizing i with
  | done | unexpected => exact absurd hi (Nat.not_lt_zero i)
  | expected code _ ih =>
    cases i with
    | zero => exact congrArg some code
    | succ i => exact ih (Nat.lt_of_succ_lt_succ hi)

theorem Exchange.code_unexpected (h : Exchange asks s got k) (hk : k < asks.length) :
    got[k]?.map (·.sc) ≠ asks[k]?.map (·.expects) := by
  induction h with
  | done => exact absurd hk (Nat.not_lt_zero 0)
  | expected _ _ ih => exact ih (Nat.lt_of_succ_lt_succ hk)
  | unexpected _ code => exact mt Option.some_inj.mp code

/-- R113: each answer is the environment's next one in the state that the answers before it have left. -/
theorem Exchange.answer (h : Exchange asks s got k) {i : Nat} (hi : i < got.length) {q : Ask}
    (hq : asks[i]? = some q) : got[i]? = some (nextAnswer q.request (afterAnswers asks (got.take i) s)) := by
  induction h generalizing i with
  | done => exact absurd hi (Nat.not_lt_zero i)
  | expected _ _ ih =>
    cases i with
    | zero => obtain rfl := Option.some_inj.mp hq; rw [List.take_zero, afterAnswers_nil]; rfl
    | succ i =>
      rw [List.take_succ_cons, afterAnswers_cons]
      exact ih (Nat.lt_of_succ_lt_succ hi) hq
  | unexpected =>
    obtain rfl := Nat.lt_one_iff.mp hi
    obtain rfl := Option.some_inj.mp hq
    rw [List.take_zero, afterAnswers_nil]; rfl

/-- R113: in place of that state, any with the same answers to come, draws and history. -/
theorem Exchange.answer_in (h : Exchange asks s got k) {i : Nat} (hi : i < got.length) {q : Ask}
    (hq : asks[i]? = some q) {t : State} (hanswers : t.answers = s.answers.drop i) (hdraws : t.draws = s.draws + i)
    (hhistory : t.history = s.history ++ List.zipWith (fun q => eventOf q.request) asks (got.take i)) :
    got[i]? = some (nextAnswer q.request t) := by
  have drawn : (got.take i).length = i := List.length_take_of_le hi.le
  rw [h.answer hi hq]
  refine congrArg some (nextAnswer_congr _ ?_ ?_ hhistory.symm)
  · rw [hanswers, afterAnswers, drawn]
  · rw [hdraws, afterAnswers, drawn]

theorem Exchange.answer_listed (h : Exchange asks s got k) {i : Nat} (hi : i < got.length)
    (hlisted : i < s.answers.length) : got[i]? = s.answers[i]? := by
  have bound : i < asks.length := hi.trans_le h.length_got_le
  rw [h.answer hi (List.getElem?_eq_getElem bound)]
  refine (nextAnswer_of_answers_drop ?_ hlisted).symm
  rw [afterAnswers, List.length_take_of_le hi.le]

end

/-! ### SendSeq (R119) -/

/-- The requests of SendSeq: each byte, to be acknowledged. -/
def sendAsks (c : StatusCodes) (src : List Byte) : List Ask := src.map fun b => ⟨.tx b, c.mtDataAck⟩

theorem sendAsks_cons (c : StatusCodes) (b : Byte) (rest : List Byte) :
    sendAsks c (b :: rest) = ⟨.tx b, c.mtDataAck⟩ :: sendAsks c rest := rfl

theorem sendAsks_getElem? (c : StatusCodes) {src : List Byte} {i : Nat} {b : Byte} (h : src[i]? = some b) :
    (sendAsks c src)[i]? = some ⟨.tx b, c.mtDataAck⟩ := by rw [sendAsks, List.getElem?_map, h]; rfl

theorem zipWith_sendAsks (c : StatusCodes) (src : List Byte) (got : List BusAnswer) :
    List.zipWith (fun q => eventOf q.request) (sendAsks c src) got = List.zipWith .tx src (got.map (·.sc)) := by
  rw [sendAsks, List.zipWith_map_left, List.zipWith_map_right]
  rfl

theorem sendSeq_exchange (src : List Byte) (s : State) : ∃ (got : List BusAnswer) (k : Nat),
    Exchange (sendAsks s.params.sc src) s got k ∧
    sendSeq src s = (k, setPhase (if k = src.length then s.phase else .held)
      (afterAnswers (sendAsks s.params.sc src) got s)) := by
  induction src generalizing s with
  | nil => exact ⟨[], 0, .done s, by rw [afterAnswers_nil]; rfl⟩
  | cons b rest ih =>
    rw [sendAsks_cons]
    by_cases code : (busTx b s).1 = s.params.sc.mtDataAck
    · obtain ⟨got, k, exchange, sent⟩ := ih (busTx b s).2
      refine ⟨_, k + 1, .expected (q := ⟨.tx b, _⟩) code exchange, ?_⟩
      rw [sendSeq_cons_ack b rest s code, sent, afterAnswers_cons ⟨.tx b, _⟩]
      simp only [List.length_cons, Nat.add_right_cancel_iff]
      rfl
    · refine ⟨_, 0, .unexpected (q := ⟨.tx b, _⟩) _ code, ?_⟩
      rw [sendSeq_cons_nak b rest s code, afterAnswers_cons ⟨.tx b, _⟩, afterAnswers_nil,
        List.length_cons, if_neg (Nat.zero_ne_add_one rest.length)]
      rfl

/-- Settles O15: the facts about an exchange, read for the codes of the bytes sent. -/
theorem sendSeqStopsAtFirstNak : Obligations.SendSeqStopsAtFirstNak := by
  intro src s
  obtain ⟨got, k, exchange, sent⟩ := sendSeq_exchange src s
  have length_asks : (sendAsks s.params.sc src).length = src.length := List.length_map _
  have ask {i : Nat} (hi : i < src.length) :
      (sendAsks s.params.sc src)[i]?.map (·.expects) = some s.params.sc.mtDataAck := by
    rw [sendAsks_getElem? _ (List.getElem?_eq_getElem hi)]; rfl
  have count : k ≤ src.length := length_asks ▸ exchange.count_le
  refine ⟨got.map (·.sc), k, count, ?_, fun i hi => ?_, fun hk => ?_, fun i hi listed => ?_, fun i hi b hb => ?_, ?_⟩
  · rw [List.length_map, exchange.length_got, length_asks]
  · rw [List.getElem?_map, exchange.code_expected hi, ask (hi.trans_le count)]
  · rw [List.getElem?_map, ← ask hk]
    exact exchange.code_unexpected (length_asks ▸ hk)
  · rw [List.getElem?_map, exchange.answer_listed (List.length_map (as := got) _ ▸ hi) listed]
  · rw [List.length_map] at hi
    rw [List.getElem?_map, Option.map_eq_some_iff]
    refine ⟨_, exchange.answer_in hi (sendAsks_getElem? _ hb) ?_ ?_ ?_, rfl⟩
    · rfl
    · rfl
    · rw [zipWith_sendAsks, List.map_take]
  · rw [sent, setPhase, afterAnswers, zipWith_sendAsks, List.length_map]

/-! ### RecvSeq (R120) -/

/-- The requests of RecvSeq: every byte but the last to be answered with ACK. -/
def recvAsks (c : StatusCodes) (n : Nat) : List Ask :=
  (List.range n).map fun i => ⟨.rx (decide (i + 1 < n)), rxCode c (decide (i + 1 < n))⟩

theorem length_recvAsks (c : StatusCodes) (n : Nat) : (recvAsks c n).length = n := by
  rw [recvAsks, List.length_map, List.length_range]

theorem recvAsks_getElem? (c : StatusCodes) {n i : Nat} (hi : i < n) :
    (recvAsks c n)[i]? = some ⟨.rx (decide (i + 1 < n)), rxCode c (decide (i + 1 < n))⟩ := by
  rw [recvAsks, List.getElem?_map, List.getElem?_range hi]; rfl

theorem recvAsks_succ (c : StatusCodes) (n : Nat) :
    recvAsks c (n + 1) = ⟨.rx (decide (n ≠ 0)), rxCode c (decide (n ≠ 0))⟩ :: recvAsks c n := by
  simp [recvAsks, List.range_succ_eq_map, Function.comp_def, Nat.pos_iff_ne_zero]

theorem zipWith_recvAsks (c : StatusCodes) {n : Nat} {got : List BusAnswer} (h : got.length ≤ n) :
    List.zipWith (fun q => eventOf q.request) (recvAsks c n) got =
      got.mapIdx (fun i a => .rx (decide (i + 1 < n)) a.data a.sc) := by
  refine List.ext_getElem? fun i => ?_
  rw [List.getElem?_zipWith, List.getElem?_mapIdx]
  by_cases hi : i < got.length
  · rw [recvAsks_getElem? c (hi.trans_le h), List.getElem?_eq_getElem hi]; rfl
  · rw [List.getElem?_eq_none (not_lt.mp hi)]
    cases (recvAsks c n)[i]? <;> rfl

theorem recvSeq_exchange (n : Nat) (s : State) : ∃ (got : List BusAnswer) (k : Nat),
    Exchange (recvAsks s.params.sc n) s got k ∧
    recvSeq n s = ((got.take k).map (·.data), busStop (afterAnswers (recvAsks s.params.sc n) got s)) := by
  induction n generalizing s with
  | zero => exact ⟨[], 0, .done s, by rw [afterAnswers_nil]; rfl⟩
  | succ n ih =>
    rw [recvAsks_succ]
    by_cases code : (busRx (decide (n ≠ 0)) s).1.2 = rxCode s.params.sc (decide (n ≠ 0))
    · obtain ⟨got, k, exchange, received⟩ := ih (busRx (decide (n ≠ 0)) s).2
      refine ⟨_, k + 1, .expected (q := ⟨.rx _, _⟩) code exchange, ?_⟩
      rw [recvSeq_succ_good n s _ rfl code, received, afterAnswers_cons ⟨.rx _, _⟩]
      rfl
    · refine ⟨_, 0, .unexpected (q := ⟨.rx _, _⟩) _ code, ?_⟩
      rw [recvSeq_succ_bad n s _ rfl code, afterAnswers_cons ⟨.rx _, _⟩, afterAnswers_nil]
      rfl

/-- Settles O16: the facts about an exchange, read for the bytes received. -/
theorem recvSeqAcknowledgesAllButTheLast : Obligations.RecvSeqAcknowledgesAllButTheLast := by
  intro n s
  obtain ⟨got, k, exchange, received⟩ := recvSeq_exchange n s
  have length_asks := length_recvAsks s.params.sc n
  have count : k ≤ n := length_asks ▸ exchange.count_le
  have length_le : got.length ≤ n := length_asks ▸ exchange.length_got_le
  refine ⟨got, k, count, ?_, fun i hi => ?_, fun hk => ?_, fun i hi => exchange.answer_listed hi, fun i hi => ?_, ?_⟩
  · rw [exchange.length_got, length_asks]
  · rw [exchange.code_expected hi, recvAsks_getElem? _ (hi.trans_le count)]; rfl
  · have other := exchange.code_unexpected (length_asks.symm ▸ hk)
    rwa [recvAsks_getElem? _ hk] at other
  · exact exchange.answer_in hi (recvAsks_getElem? _ (hi.trans_le length_le)) rfl rfl
      (by rw [zipWith_recvAsks _ (by rw [List.length_take]; omega)])
  · rw [received, busStop, afterAnswers, zipWith_recvAsks _ length_le]

/-! ### Transactions (R121, R122) -/

/-- The state that a transaction of these events and a stop leaves, one answer drawn for each of the events. -/
def transaction (events : List BusEvent) (s : State) : State :=
  { s with answers := s.answers.drop events.length, draws := s.draws + events.length,
           history := s.history ++ events ++ [.stop], bsc := s.params.sc.noInfo, phase := .idle }

section
variable {slave : BitVec 7} {dir : Bool} {src : List Byte} {n : Nat} {s started opened : State} {sc c : Byte}

theorem writeSeq_of_not_opened (h : openSeq slave false s = (false, opened)) :
    writeSeq slave src s = (none, opened) := by simp [writeSeq, h]

theorem writeSeq_of_opened (h : openSeq slave false s = (true, opened)) :
    writeSeq slave src s = (some (sendSeq src opened).1, busStop (sendSeq src opened).2) := by simp [writeSeq, h]

theorem readSeq_of_not_opened (h : openSeq slave true s = (false, opened)) :
    readSeq slave n s = (none, opened) := by simp [readSeq, h]

theorem readSeq_of_opened (h : openSeq slave true s = (true, opened)) :
    readSeq slave n s = (some (recvSeq n opened).1, (recvSeq n opened).2) := by simp [readSeq, h]

/-- R121, R122: the answers to the start and to the address byte decide how a transaction opens. -/
theorem openSeq_of_answers (hsc : sc = (nextAnswer .start s).sc)
    (hstarted : started = { s with answers := s.answers.drop 1, draws := s.draws + 1,
                                   history := s.history ++ [.start sc], bsc := sc })
    (hc : c = (nextAnswer (.addr (addressByte slave dir)) started).sc)
    (hopened : opened = { s with answers := s.answers.drop 2, draws := s.draws + 2,
                                 history := s.history ++ [.start sc, .addr (addressByte slave dir) c], bsc := c }) :
    (startOk s.params.sc sc = false ∧ openSeq slave dir s = (false, transaction [.start sc] s)) ∨
    (startOk s.params.sc sc = true ∧ c ≠ slaAck s.params.sc dir ∧
      openSeq slave dir s = (false, transaction [.start sc, .addr (addressByte slave dir) c] s)) ∨
    (startOk s.params.sc sc = true ∧ c = slaAck s.params.sc dir ∧ openSeq slave dir s = (true, opened)) := by
  have start : busStart s = (sc, started) := by
    rw [busStart_eq, ← hsc, hstarted, List.drop_one]; rfl
  have address : busAddr (addressByte slave dir) started = (c, opened) := by
    rw [busAddr_eq, ← hc, hopened, hstarted, recordEvent, List.tail_drop, List.append_assoc]
    rfl
  cases hstart : startOk s.params.sc sc with
  | false =>
    rw [openSeq_of_start_failed slave dir s (by rw [start]; exact hstart), start, hstarted]
    exact .inl ⟨rfl, rfl⟩
  | true =>
    by_cases hack : c = slaAck s.params.sc dir
    · rw [openSeq_of_acknowledged slave dir s (by rw [start]; exact hstart) (by rw [start, address]; exact hack),
        start, address]
      exact .inr (.inr ⟨rfl, hack, rfl⟩)
    · rw [openSeq_of_address_failed slave dir s (by rw [start]; exact hstart) (by rw [start, address]; exact hack),
        start, address, hopened]
      exact .inr (.inl ⟨rfl, hack, rfl⟩)

/-- A transaction's events after its address byte, counted from the state in which the first of them is answered. -/
theorem transaction_of_opened {e e' : BusEvent}
    (hopened : opened = { s with answers := s.answers.drop 2, draws := s.draws + 2, history := s.history ++ [e, e'],
                                 bsc := c }) (events : List BusEvent) :
    transaction events opened = transaction (e :: e' :: events) s := by
  rw [hopened]
  simp [transaction, Nat.add_assoc, Nat.add_comm 2]

end

/-- Settles O17: how the transaction opens (`openSeq_of_answers`), then SendSeq as O15 has it. -/
theorem writeSeqAlwaysStops : Obligations.WriteSeqAlwaysStops := by
  intro slave src s started opened sc c hsc hstarted hc hopened
  rcases openSeq_of_answers (slave := slave) (dir := false) hsc hstarted hc hopened with
    ⟨hstart, seq⟩ | ⟨hstart, hack, seq⟩ | ⟨hstart, hack, seq⟩
  · rw [writeSeq_of_not_opened seq, hstart]
    exact ⟨[], rfl, fun _ => ⟨rfl, rfl⟩, nofun, nofun⟩
  · rw [writeSeq_of_not_opened seq, hstart]
    exact ⟨_, rfl, nofun, fun _ _ => ⟨rfl, rfl⟩, fun _ acked => absurd acked hack⟩
  · obtain ⟨codes, k, count, length_codes, acked, nak, listed, answer, sent⟩ := sendSeqStopsAtFirstNak src opened
    have drawn : (List.zipWith BusEvent.tx src codes).length = codes.length := by
      rw [List.length_zipWith, length_codes]; omega
    rw [← drawn] at sent
    rw [writeSeq_of_opened seq, hstart, sent]
    have left := transaction_of_opened hopened (List.zipWith .tx src codes)
    subst hopened
    refine ⟨.addr (slave ++ 0#1) c :: List.zipWith .tx src codes, left, nofun, fun _ nack => absurd hack nack,
      fun _ _ => ⟨codes, k, count, length_codes, acked, nak, fun i hi hlisted => ?_, answer, rfl, rfl⟩⟩
    rw [listed i hi (by rw [List.length_drop]; omega), List.getElem?_drop, Nat.add_comm]

/-- Settles O18: how the transaction opens (`openSeq_of_answers`), then RecvSeq as O16 has it. -/
theorem readSeqAlwaysStops : Obligations.ReadSeqAlwaysStops := by
  intro slave len s started opened sc c hsc hstarted hc hopened
  rcases openSeq_of_answers (slave := slave) (dir := true) hsc hstarted hc hopened with
    ⟨hstart, seq⟩ | ⟨hstart, hack, seq⟩ | ⟨hstart, hack, seq⟩
  · rw [readSeq_of_not_opened seq, hstart]
    exact ⟨[], rfl, fun _ => ⟨rfl, rfl⟩, nofun, nofun⟩
  · rw [readSeq_of_not_opened seq, hstart]
    exact ⟨_, rfl, nofun, fun _ _ => ⟨rfl, rfl⟩, fun _ acked => absurd acked hack⟩
  · obtain ⟨got, k, count, length_got, good, bad, listed, answer, received⟩ :=
      recvSeqAcknowledgesAllButTheLast len opened
    rw [← List.length_mapIdx (l := got) (f := fun i a => BusEvent.rx (decide (i + 1 < len)) a.data a.sc)] at received
    have left := received.trans (congrArg _ (transaction_of_opened hopened _))
    rw [readSeq_of_opened seq, hstart, left]
    subst hopened
    refine ⟨.addr (slave ++ 1#1) c :: got.mapIdx (fun i a => .rx (decide (i + 1 < len)) a.data a.sc), rfl, nofun,
      fun _ nack => absurd hack nack,
      fun _ _ => ⟨got, k, count, length_got, good, bad, fun i hi hlisted => ?_, answer, rfl, rfl⟩⟩
    rw [listed i hi (by rw [List.length_drop]; omega), List.getElem?_drop, Nat.add_comm]

/-! ### How many bytes are received, and what a read leaves alone -/

theorem length_recvSeq_le (n : Nat) (s : State) : (recvSeq n s).1.length ≤ n := by
  obtain ⟨got, k, exchange, received⟩ := recvSeq_exchange n s
  have length_le : got.length ≤ n := length_recvAsks s.params.sc n ▸ exchange.length_got_le
  rw [received, List.length_map, List.length_take]
  omega

theorem readSeq_frame (slave : BitVec 7) (n : Nat) (s : State) : BusFrame s (readSeq slave n s).2 := by
  obtain ⟨u, hframe, -, hu⟩ := readSeq_ends_with_stop slave n s
  exact hu ▸ hframe.trans (busStop_frame u)

theorem length_readSeq_le (slave : BitVec 7) (n : Nat) (s : State) : ((readSeq slave n s).1.getD []).length ≤ n := by
  obtain ⟨u, -, -, opened | notOpened⟩ := openSeq_cases slave true s
  · rw [readSeq_of_opened opened]; exact length_recvSeq_le n u
  · rw [readSeq_of_not_opened notOpened]; exact Nat.zero_le n

/-! ### The checks of a bus command (R93, R96, R117) -/

theorem formLegal_slave_iff (w : Word) : formLegal .slave w = true ↔ w.toNat ≤ 0x7F :=
  (high_zero_iff_lt w rfl).trans Nat.lt_succ_iff

theorem formLegal_dir_iff (w : Word) : formLegal .dir w = true ↔ w.toNat ≤ 1 :=
  (high_zero_iff_lt w rfl).trans Nat.lt_succ_iff

theorem formLegal_byte_iff (w : Word) : formLegal .byte w = true ↔ w.toNat ≤ 0xFF :=
  (high_zero_iff_lt w rfl).trans Nat.lt_succ_iff

section
variable {i : Instr} {s : State}

theorem operandsLegal_iff_of_one {k : Fin 4} {f : Form} (h : operandForms i = [(k, f)]) :
    operandsLegal i s = true ↔ formLegal f s.larg[k] = true := by
  rw [operandsLegal, h, List.all_cons, List.all_nil, Bool.and_true]

theorem operandsLegal_iff_of_two {k l : Fin 4} {f g : Form} (h : operandForms i = [(k, f), (l, g)]) :
    operandsLegal i s = true ↔ formLegal f s.larg[k] = true ∧ formLegal g s.larg[l] = true := by
  rw [operandsLegal, h, List.all_cons, List.all_cons, List.all_nil, Bool.and_true, Bool.and_eq_true]

theorem operandsLegal_busAddr_iff :
    operandsLegal .busAddr s = true ↔ s.larg[0].toNat ≤ 0x7F ∧ s.larg[1].toNat ≤ 1 :=
  (operandsLegal_iff_of_two rfl).trans (and_congr (formLegal_slave_iff _) (formLegal_dir_iff _))

theorem operandsLegal_busSendByte_iff : operandsLegal .busSendByte s = true ↔ s.larg[0].toNat ≤ 0xFF :=
  (operandsLegal_iff_of_one rfl).trans (formLegal_byte_iff _)

/-- R94: the operand of BUS_SEND and BUS_RECV. -/
theorem operandsLegal_iff_of_count (h : operandForms i = [(0, .count)]) :
    operandsLegal i s = true ↔ s.larg[0].toNat ≤ 32 :=
  (operandsLegal_iff_of_one h).trans (formLegal_count_iff _)

/-- R94: the operands of BUS_WRITE and BUS_READ. -/
theorem operandsLegal_iff_of_transaction (h : operandForms i = [(0, .slave), (1, .count)]) :
    operandsLegal i s = true ↔ s.larg[0].toNat ≤ 0x7F ∧ s.larg[1].toNat ≤ 32 :=
  (operandsLegal_iff_of_two h).trans (and_congr (formLegal_slave_iff _) (formLegal_count_iff _))

/-- R96: a command whose operands are not all legal. -/
theorem exec_of_illegal_operand (h : ¬ operandsLegal i s = true) :
    exec i s = .next { s with result := 0, err := .illegalOperand } := by
  obtain ⟨body, hbody⟩ := exec_eq_guarded i s
  rw [hbody, guarded_illegal_operand i s body (Bool.eq_false_of_not_eq_true h)]

/-- R117: a command in a phase that its row does not allow. -/
theorem exec_of_illegal_phase (legal : operandsLegal i s = true) (h : phaseAllowed i s.phase = false) :
    exec i s = .next { s with result := 0, err := .illegalSequence } := by
  obtain ⟨body, hbody⟩ := exec_eq_guarded i s
  rw [hbody, guarded_illegal_phase i s body legal h]

end

/-- R117: the rows of the phase table that allow one phase only. -/
theorem phaseAllowed_eq_false {i : Instr} {row : List Instr} {p q : Phase}
    (hrow : ∀ j ∈ row, phaseAllowed j q = decide (q = p)) (hi : i ∈ row) (h : q ≠ p) : phaseAllowed i q = false := by
  rw [hrow i hi, decide_eq_false h]

theorem exec_busStop (s : State) :
    exec .busStop s = .next (complete 1 .ok (if s.phase = .idle then s else busStop s)) :=
  guarded_legal .busStop s _ rfl rfl

/-- Settles O13: the rows of the phase table, one after the other. -/
theorem wrongPhaseRaisesIllegalSequence : Obligations.WrongPhaseRaisesIllegalSequence := by
  refine ⟨fun i s legal wrong => exec_of_illegal_phase legal ?_, fun s => ⟨_, exec_busStop s, rfl⟩⟩
  rcases wrong with ⟨rfl, held⟩ | ⟨rfl, notStarted⟩ | ⟨row, notTx⟩ | ⟨rfl, notRx⟩ | ⟨row, notIdle⟩
  · rw [held]; rfl
  · exact decide_eq_false notStarted
  · exact phaseAllowed_eq_false (by simp [phaseAllowed]) row notTx
  · exact decide_eq_false notRx
  · exact phaseAllowed_eq_false (by simp [phaseAllowed]) row notIdle

/-! ### BUS_START and BUS_STOP (R123, R124) -/

theorem endPhase_eq (ok : Bool) (reached : Phase) (s : State) :
    endPhase ok reached s = { s with phase := if ok then reached else .held, result := if ok then 1 else 0,
                                     err := if ok then .ok else .busFailure } := rfl

theorem exec_busStart {s : State} (h : s.phase ≠ .held) :
    exec .busStart s = .next (endPhase (startOk s.params.sc (busStart s).1) .started (busStart s).2) :=
  guarded_legal .busStart s _ rfl (decide_eq_true h)

/-- Settles O19. -/
theorem busStartSendsAStart : Obligations.BusStartSendsAStart := by
  refine ⟨rfl, fun s => ⟨fun held => ?_, fun notHeld sc hsc => ?_⟩⟩
  · exact exec_of_illegal_phase rfl (by rw [held]; rfl)
  · rw [exec_busStart notHeld, endPhase_eq, busStart_eq, ← hsc]
    rfl

/-- Settles O20. -/
theorem busStopReleasesTheBus : Obligations.BusStopReleasesTheBus := by
  refine ⟨rfl, fun s => ⟨fun idle => ?_, fun notIdle => ?_⟩⟩
  · rw [exec_busStop, if_pos idle]; rfl
  · rw [exec_busStop, if_neg notIdle]; rfl

/-! ### BUS_ADDR and BUS_SEND_BYTE (R125, R126) -/

theorem exec_busAddr {s : State} (legal : operandsLegal .busAddr s = true) (h : s.phase = .started) {byte sc : Byte}
    (hbyte : byte = addressByte (slaveOperand 0 s) (bitOperand 1 s)) (hsc : sc = (nextAnswer (.addr byte) s).sc) :
    exec .busAddr s = .next (endPhase (decide (sc = slaAck s.params.sc (bitOperand 1 s)))
      (if bitOperand 1 s then .masterRx else .masterTx) (recordEvent (.addr byte sc) sc s)) := by
  subst hbyte hsc
  exact guarded_legal .busAddr s _ legal (decide_eq_true h)

/-- R93: the two legal directions. -/
theorem dirOperand_cases {s : State} (h : s.larg[1].toNat ≤ 1) :
    (s.larg[1] = 0 ∧ bitOperand 1 s = false) ∨ (s.larg[1] = 1 ∧ bitOperand 1 s = true) := by
  have direction : s.larg[1] = 0 ∨ s.larg[1] = 1 := by bv_omega
  exact direction.imp (fun write => ⟨write, (congrArg (BitVec.getLsbD · 0) write :)⟩)
    fun read => ⟨read, (congrArg (BitVec.getLsbD · 0) read :)⟩

/-- R93: the operands of BUS_ADDR as its address byte. -/
theorem addressByte_operands {s : State} (hslave : s.larg[0].toNat ≤ 0x7F) (hdir : s.larg[1].toNat ≤ 1) :
    BitVec.ofNat 8 (2 * s.larg[0].toNat + s.larg[1].toNat) = addressByte (slaveOperand 0 s) (bitOperand 1 s) := by
  have slave : (slaveOperand 0 s).toNat = s.larg[0].toNat := by
    rw [slaveOperand, BitVec.extractLsb'_toNat]
    exact Nat.mod_eq_of_lt (Nat.lt_succ_of_le hslave)
  have dir : (bitOperand 1 s).toNat = s.larg[1].toNat := by
    rcases dirOperand_cases hdir with ⟨write, bit⟩ | ⟨read, bit⟩
    · rw [write, bit]; rfl
    · rw [read, bit]; rfl
  apply BitVec.eq_of_toNat_eq
  rw [toNat_addressByte, slave, dir, BitVec.toNat_ofNat]
  omega

/-- Settles O21: a legal direction is 0 or 1, and each has its own acknowledgement and phase. -/
theorem busAddrSendsTheAddressByte : Obligations.BusAddrSendsTheAddressByte := by
  refine ⟨rfl, fun s => ⟨fun illegal => ?_, fun slave dir wrong => ?_, fun slave dir started byte sc hbyte hsc => ?_⟩⟩
  · exact exec_of_illegal_operand (by rw [operandsLegal_busAddr_iff]; omega)
  · exact exec_of_illegal_phase (operandsLegal_busAddr_iff.mpr ⟨slave, dir⟩) (decide_eq_false wrong)
  · rw [exec_busAddr (operandsLegal_busAddr_iff.mpr ⟨slave, dir⟩) started
      (hbyte.trans (addressByte_operands slave dir)) hsc, endPhase_eq]
    rcases dirOperand_cases dir with ⟨write, bit⟩ | ⟨read, bit⟩
    · simp [write, bit, slaAck, recordEvent]
    · simp [read, bit, slaAck, recordEvent]

theorem exec_busSendByte {s : State} (legal : operandsLegal .busSendByte s = true) (h : s.phase = .masterTx) :
    exec .busSendByte s = .next (reportCount (sendSeq [byteOperand 0 s] s).1
      (decide ((sendSeq [byteOperand 0 s] s).1 = 1)) (sendSeq [byteOperand 0 s] s).2) :=
  guarded_legal .busSendByte s _ legal (decide_eq_true h)

/-- Settles O22: SendSeq of one byte. -/
theorem busSendByteSendsTheOperand : Obligations.BusSendByteSendsTheOperand := by
  refine ⟨rfl, fun s => ⟨fun illegal => ?_, fun legal wrong => ?_, fun legal masterTx byte sc hbyte hsc => ?_⟩⟩
  · exact exec_of_illegal_operand (by rw [operandsLegal_busSendByte_iff]; omega)
  · exact exec_of_illegal_phase (operandsLegal_busSendByte_iff.mpr legal) (decide_eq_false wrong)
  · have operand : byteOperand 0 s = byte := hbyte.symm
    have sent : busTx byte s = (sc, recordEvent (.tx byte sc) sc s) := by rw [busTx_eq, ← hsc]
    rw [exec_busSendByte (operandsLegal_busSendByte_iff.mpr legal) masterTx, operand]
    by_cases ack : sc = s.params.sc.mtDataAck
    · rw [sendSeq_cons_ack byte [] s (by rw [sent]; exact ack), sent, sendSeq_nil, ← masterTx]
      simp [reportCount, complete, ack, recordEvent, busOutcome]
    · rw [sendSeq_cons_nak byte [] s (by rw [sent]; exact ack), sent]
      simp [reportCount, complete, ack, recordEvent, busOutcome, setPhase]

/-! ### BUS_SEND and BUS_WRITE (R127, R129) -/

section
variable {s : State} {n : Nat}

theorem xbufWritten_eq_false_iff : xbufWritten n s = false ↔ ∃ i < n, s.xvalid[i]? = some false := by
  have unwritten : xbufWritten n s = false ↔ false ∈ s.xvalid.toList.take n := by
    simp [xbufWritten]
  rw [unwritten, List.mem_iff_getElem?]
  refine exists_congr fun i => ?_
  rw [List.getElem?_take, Vector.getElem?_toList]
  split <;> simp [*]

theorem xbufWritten_of_written (h : ∀ i < n, s.xvalid[i]? = some true) : xbufWritten n s = true := by
  refine Bool.eq_true_of_not_eq_false fun unwritten => ?_
  obtain ⟨i, hi, hfalse⟩ := xbufWritten_eq_false_iff.mp unwritten
  rw [h i hi] at hfalse
  cases hfalse

theorem exec_busSend (legal : operandsLegal .busSend s = true) (h : s.phase = .masterTx) (hn : n = s.larg[0].toNat) :
    exec .busSend s =
      if xbufWritten n s then
        .next (reportCount (sendSeq (xbufBytes n s) s).1 (decide ((sendSeq (xbufBytes n s) s).1 = n))
          (sendSeq (xbufBytes n s) s).2)
      else .fault .xbufUnwritten := by
  subst hn
  exact guarded_legal .busSend s _ legal (decide_eq_true h)

theorem exec_busWrite {slave : BitVec 7} (legal : operandsLegal .busWrite s = true) (h : s.phase = .idle)
    (hn : n = s.larg[1].toNat) (hslave : slave = s.larg[0].setWidth 7) :
    exec .busWrite s =
      if xbufWritten n s then
        .next (reportCount ((writeSeq slave (xbufBytes n s) s).1.getD 0)
          (decide ((writeSeq slave (xbufBytes n s) s).1 = some n)) (writeSeq slave (xbufBytes n s) s).2)
      else .fault .xbufUnwritten := by
  subst hn hslave
  exact guarded_legal .busWrite s _ legal (decide_eq_true h)

theorem reportCount_decide (count : Nat) (p : Prop) [Decidable p] (t : State) :
    reportCount count (decide p) t =
      { t with result := BitVec.ofNat 32 count, err := if p then .ok else .busFailure } := by
  simp [reportCount, complete, busOutcome]

end

/-- Settles O23. -/
theorem busSendSendsTheBuffer : Obligations.BusSendSendsTheBuffer := by
  refine ⟨rfl, fun s n hn => ?_⟩
  have legal_iff : operandsLegal .busSend s = true ↔ n ≤ 32 := hn ▸ operandsLegal_iff_of_count rfl
  refine ⟨fun illegal => ?_, fun legal wrong => ?_, fun legal masterTx unwritten => ?_,
    fun legal masterTx written k t sent => ?_⟩
  · exact exec_of_illegal_operand (by rw [legal_iff]; omega)
  · exact exec_of_illegal_phase (legal_iff.mpr legal) (decide_eq_false wrong)
  · rw [exec_busSend (legal_iff.mpr legal) masterTx hn, xbufWritten_eq_false_iff.mpr unwritten]
    rfl
  · rw [exec_busSend (legal_iff.mpr legal) masterTx hn, if_pos (xbufWritten_of_written written), xbufBytes, sent,
      reportCount_decide]

/-- Settles O25. -/
theorem busWriteRunsAWriteTransaction : Obligations.BusWriteRunsAWriteTransaction := by
  refine ⟨rfl, fun s n slave hn hslave => ?_⟩
  have legal_iff : operandsLegal .busWrite s = true ↔ s.larg[0].toNat ≤ 0x7F ∧ n ≤ 32 :=
    hn ▸ operandsLegal_iff_of_transaction rfl
  refine ⟨fun illegal => ?_, fun address count wrong => ?_, fun address count idle unwritten => ?_,
    fun address count idle written k t sent => ?_⟩
  · exact exec_of_illegal_operand (by rw [legal_iff]; omega)
  · exact exec_of_illegal_phase (legal_iff.mpr ⟨address, count⟩) (decide_eq_false wrong)
  · rw [exec_busWrite (legal_iff.mpr ⟨address, count⟩) idle hn hslave, xbufWritten_eq_false_iff.mpr unwritten]
    rfl
  · rw [exec_busWrite (legal_iff.mpr ⟨address, count⟩) idle hn hslave, if_pos (xbufWritten_of_written written),
      xbufBytes, sent, reportCount_decide]

/-! ### BUS_RECV and BUS_READ (R128, R130) -/

theorem exec_busRecv {s : State} {n : Nat} (legal : operandsLegal .busRecv s = true) (h : s.phase = .masterRx)
    (hn : n = s.larg[0].toNat) :
    exec .busRecv s = .next (reportCount (recvSeq n s).1.length (decide ((recvSeq n s).1.length = n))
      (storeXbuf (recvSeq n s).1 (recvSeq n s).2)) := by
  subst hn
  exact guarded_legal .busRecv s _ legal (decide_eq_true h)

theorem exec_busRead {s : State} {n : Nat} {slave : BitVec 7} (legal : operandsLegal .busRead s = true)
    (h : s.phase = .idle) (hn : n = s.larg[1].toNat) (hslave : slave = s.larg[0].setWidth 7) :
    exec .busRead s = .next (reportCount ((readSeq slave n s).1.getD []).length
      (decide ((readSeq slave n s).1.map List.length = some n))
      (storeXbuf ((readSeq slave n s).1.getD []) (readSeq slave n s).2)) := by
  subst hn hslave
  exact guarded_legal .busRead s _ legal (decide_eq_true h)

section
variable {α : Type} {m : Nat} (v : Vector α m) (xs : List α) {i : Nat}

/-- A list written from the beginning of a vector that is long enough. -/
theorem writeFrom_zero_getElem?_lt (hi : i < xs.length) (hlen : xs.length ≤ m) : (writeFrom v 0 xs)[i]? = xs[i]? := by
  rw [writeFrom_getElem?, if_pos (by omega), Nat.sub_zero]

theorem writeFrom_zero_getElem?_ge (hi : xs.length ≤ i) : (writeFrom v 0 xs)[i]? = v[i]? := by
  rw [writeFrom_getElem?, if_neg (by omega)]

end

/-- R128, R130: the bytes received are in XBUF from 0 on and marked written, and the rest of XBUF is as it was. -/
theorem exists_storeXbuf {s t : State} (hframe : BusFrame s t) {got : List Byte} (hlen : got.length ≤ 32) :
    ∃ (xbuf : Vector Byte 32) (xvalid : Vector Bool 32),
      (∀ i < got.length, xbuf[i]? = got[i]? ∧ xvalid[i]? = some true) ∧
      (∀ i, got.length ≤ i → xbuf[i]? = s.xbuf[i]? ∧ xvalid[i]? = s.xvalid[i]?) ∧
      storeXbuf got t = { t with xbuf := xbuf, xvalid := xvalid } := by
  have marks : (List.replicate got.length true).length = got.length := List.length_replicate
  refine ⟨_, _, fun i hi => ⟨writeFrom_zero_getElem?_lt _ got hi hlen, ?_⟩,
    fun i hi => ⟨?_, ?_⟩, rfl⟩
  · rw [writeFrom_zero_getElem?_lt _ _ (by rwa [marks]) (by rwa [marks]), List.getElem?_replicate_of_lt hi]
  · rw [writeFrom_zero_getElem?_ge _ _ hi, hframe.xbuf]
  · rw [writeFrom_zero_getElem?_ge _ _ (by rwa [marks]), hframe.xvalid]

/-- Settles O24. -/
theorem busRecvFillsTheBuffer : Obligations.BusRecvFillsTheBuffer := by
  refine ⟨rfl, fun s n hn => ?_⟩
  have legal_iff : operandsLegal .busRecv s = true ↔ n ≤ 32 := hn ▸ operandsLegal_iff_of_count rfl
  refine ⟨fun illegal => ?_, fun legal wrong => ?_, fun legal masterRx got t received => ?_⟩
  · exact exec_of_illegal_operand (by rw [legal_iff]; omega)
  · exact exec_of_illegal_phase (legal_iff.mpr legal) (decide_eq_false wrong)
  · have frame := recvSeq_frame n s
    have length_le := (length_recvSeq_le n s).trans legal
    rw [received] at frame length_le
    obtain ⟨xbuf, xvalid, stored, kept, storage⟩ := exists_storeXbuf frame length_le
    refine ⟨xbuf, xvalid, stored, kept, ?_⟩
    rw [exec_busRecv (legal_iff.mpr legal) masterRx hn, received, reportCount_decide, storage]

/-- Settles O26. -/
theorem busReadRunsAReadTransaction : Obligations.BusReadRunsAReadTransaction := by
  refine ⟨rfl, fun s n slave hn hslave => ?_⟩
  have legal_iff : operandsLegal .busRead s = true ↔ s.larg[0].toNat ≤ 0x7F ∧ n ≤ 32 :=
    hn ▸ operandsLegal_iff_of_transaction rfl
  refine ⟨fun illegal => ?_, fun address count wrong => ?_, fun address count idle got t received => ?_⟩
  · exact exec_of_illegal_operand (by rw [legal_iff]; omega)
  · exact exec_of_illegal_phase (legal_iff.mpr ⟨address, count⟩) (decide_eq_false wrong)
  · have frame := readSeq_frame slave n s
    have length_le := (length_readSeq_le slave n s).trans count
    rw [received] at frame length_le
    obtain ⟨xbuf, xvalid, stored, kept, storage⟩ := exists_storeXbuf frame length_le
    refine ⟨xbuf, xvalid, stored, kept, ?_⟩
    rw [exec_busRead (legal_iff.mpr ⟨address, count⟩) idle hn hslave, received, reportCount_decide, storage]

/-! ### A refresh that is answered whole (R151, R152) -/

/-- R152: a read of all 32 bytes. -/
theorem refresh_of_whole_read {s t : State} {bytes : List Byte}
    (h : readSeq s.params.tunerAddr 32 s = (some bytes, t)) (hlen : bytes.length = 32) :
    refresh s = (true, loadShadow (storeStg bytes t)) := by
  simp [refresh, readLen, h, hlen]

/-- R151: bytes `2k` and `2k + 1` of a whole burst are register `(10 + k) mod 16`, high byte first. -/
theorem loadShadow_storeStg_register {bytes : List Byte} (t : State) (hlen : bytes.length = 32) {k : Nat}
    (hk : k < 16) : (loadShadow (storeStg bytes t)).shadow[(10 + k) % 16]? =
      some ((bytes[2 * k]?.getD 0) ++ (bytes[2 * k + 1]?.getD 0)) := by
  have place : burstPlace ((10 + k) % 16) = k := burstPlace_burstRegister k hk
  have bound : (10 + k) % 16 < 16 := Nat.mod_lt _ (by decide)
  have staged {j : Nat} (hj : j < 32) : (storeStg bytes t).stg[j]? = bytes[j]? :=
    writeFrom_zero_getElem?_lt _ bytes (by omega) hlen.le
  rw [loadShadow, Vector.getElem?_ofFn, dif_pos bound, stagedRegister, place, staged (by omega), staged (by omega)]

/-- The answers of a tuner that gives these bytes, each with the code that RecvSeq of 32 bytes expects (R120). -/
def wholeBurst (c : StatusCodes) (bytes : List Byte) : List BusAnswer :=
  bytes.mapIdx fun i x => ⟨rxCode c (decide (i < 31)), x⟩

theorem wholeBurst_getElem? (c : StatusCodes) (bytes : List Byte) (i : Nat) :
    (wholeBurst c bytes)[i]? = bytes[i]?.map fun x => ⟨rxCode c (decide (i < 31)), x⟩ := List.getElem?_mapIdx

theorem decide_succ_lt_32 (i : Nat) : decide (i + 1 < 32) = decide (i < 31) := decide_eq_decide.mpr Nat.succ_lt_succ_iff

theorem wholeBurst_data (c : StatusCodes) (bytes : List Byte) : (wholeBurst c bytes).map (·.data) = bytes := by
  refine List.ext_getElem? fun i => ?_
  rw [List.getElem?_map, wholeBurst_getElem?]
  cases bytes[i]? <;> rfl

theorem wholeBurst_events (c : StatusCodes) (bytes : List Byte) :
    (wholeBurst c bytes).mapIdx (fun i a => BusEvent.rx (decide (i + 1 < 32)) a.data a.sc) =
      bytes.mapIdx (fun i x => .rx (decide (i < 31)) x (rxCode c (decide (i < 31)))) := by
  rw [wholeBurst, List.mapIdx_mapIdx]
  simp only [decide_succ_lt_32]
  rfl

/-- R120: an exchange whose listed answers all have the expected code comes to its end, and gets these answers. -/
theorem got_eq_wholeBurst {c : StatusCodes} {bytes : List Byte} {got : List BusAnswer} {k : Nat}
    (hlen : bytes.length = 32) (count : k ≤ 32) (length_got : got.length = min 32 (k + 1))
    (bad : k < 32 → got[k]?.map (·.sc) ≠ some (rxCode c (decide (k + 1 < 32))))
    (listed : ∀ i < got.length, got[i]? = (wholeBurst c bytes)[i]?) : k = 32 ∧ got = wholeBurst c bytes := by
  have whole : k = 32 := by
    by_contra short
    refine bad (by omega) ?_
    rw [listed k (by omega), wholeBurst_getElem?, List.getElem?_eq_getElem (by omega), decide_succ_lt_32]
    rfl
  refine ⟨whole, List.ext_getElem? fun i => ?_⟩
  by_cases hi : i < got.length
  · exact listed i hi
  · rw [wholeBurst_getElem?, List.getElem?_eq_none (by omega), List.getElem?_eq_none (by omega)]; rfl

/-- R122: the read transaction in which every answer listed is a success (O18), each of its events with its answer. -/
theorem readSeq_of_wholeBurst {s : State} {a b : BusAnswer} {bytes : List Byte} {rest : List BusAnswer}
    (slave : BitVec 7) (hstart : startOk s.params.sc a.sc = true) (hack : b.sc = s.params.sc.mrSlaAck)
    (hlen : bytes.length = 32) (hanswers : s.answers = a :: b :: (wholeBurst s.params.sc bytes ++ rest)) :
    readSeq slave 32 s = (some bytes, transaction (.start a.sc :: .addr (slave ++ 1#1) b.sc ::
      bytes.mapIdx (fun i x => .rx (decide (i < 31)) x (rxCode s.params.sc (decide (i < 31))))) s) := by
  obtain ⟨mid, left, -, -, acknowledged⟩ := readSeqAlwaysStops slave 32 s _ _ a.sc b.sc
    (by rw [nextAnswer_listed _ _ _ _ hanswers]) rfl
    (by rw [nextAnswer_listed _ _ b (wholeBurst s.params.sc bytes ++ rest) (by rw [hanswers]; rfl)]) rfl
  obtain ⟨got, k, count, length_got, -, bad, listed, -, rfl, received⟩ := acknowledged hstart hack
  have length_burst : (wholeBurst s.params.sc bytes).length = 32 := List.length_mapIdx.trans hlen
  obtain ⟨rfl, rfl⟩ := got_eq_wholeBurst hlen count length_got bad fun i hi => by
    rw [listed i hi (by simp [hanswers]; omega), hanswers, List.getElem?_cons_succ, List.getElem?_cons_succ,
      List.getElem?_append_left (by omega)]
  rw [List.take_of_length_le length_burst.le, wholeBurst_data] at received
  rw [wholeBurst_events] at left
  exact Prod.ext received left

/-- Settles O28: the read transaction gets all 32 bytes, and a refresh of 32 bytes fills the file. -/
theorem answeredRefreshFillsTheShadow : Obligations.AnsweredRefreshFillsTheShadow := by
  intro s a b bytes rest hstart hack hlen hanswers
  rw [← wholeBurst, List.cons_append, List.cons_append] at hanswers
  rw [refresh_of_whole_read (readSeq_of_wholeBurst s.params.tunerAddr hstart hack hlen hanswers) hlen]
  refine ⟨rfl, ?_, rfl, fun k hk => ⟨loadShadow_storeStg_register _ hlen hk, ?_⟩⟩
  · have length_burst : (wholeBurst s.params.sc bytes).length = 32 := List.length_mapIdx.trans hlen
    simp [transaction, hanswers, hlen, length_burst]
  · rw [loadShadow_valid, Vector.getElem?_replicate, if_pos hk]

end Sys2Proof.Machine

/-! PROOFS. Family 41_regfile: the two bursts of the register-file engine (R151-R153) and the register-file commands
(R154-R156). -/
namespace Sys2Proof.Machine
open Sys2Proof

/-! ### Refresh (R151, R152) -/

/-- R152: the read decides whether a refresh loads the shadow file; STG takes what was received in either case. -/
theorem refresh_of_readSeq {s t : State} {got : Option (List Byte)}
    (h : readSeq s.params.tunerAddr 32 s = (got, t)) :
    refresh s = if (got.getD []).length = 32 then (true, loadShadow (storeStg (got.getD []) t))
      else (false, storeStg (got.getD []) t) := by
  rw [refresh, readLen, h]

/-- R151, R152: no refresh writes XBUF, each one releases the bus, and one that fails leaves the shadow file. -/
theorem refresh_frame (s : State) :
    (refresh s).2.xbuf = s.xbuf ∧ (refresh s).2.xvalid = s.xvalid ∧ (refresh s).2.phase = .idle ∧
      ((refresh s).1 = false → (refresh s).2.shadow = s.shadow ∧ (refresh s).2.valid = s.valid) := by
  obtain ⟨u, bytes, frame, -, ⟨-, h⟩ | ⟨-, h⟩⟩ := refresh_cases s
  · rw [h]
    exact ⟨frame.xbuf, frame.xvalid, rfl, Bool.noConfusion⟩
  · rw [h]
    exact ⟨frame.xbuf, frame.xvalid, rfl, fun _ => ⟨frame.shadow, frame.valid⟩⟩

/-- Settles O27: a whole burst is loaded from STG, a short one only stored there. -/
theorem refreshDeinterleavesTheBurst : Obligations.RefreshDeinterleavesTheBurst := by
  intro s got t received
  have frame := readSeq_frame s.params.tunerAddr 32 s
  have length_le := length_readSeq_le s.params.tunerAddr 32 s
  rw [received] at frame length_le
  refine ⟨fun whole => ?_, fun short => ?_⟩
  · refine ⟨(loadShadow (storeStg (got.getD []) t)).shadow, writeFrom t.stg 0 (got.getD []),
      (refresh_of_readSeq received).trans (if_pos whole),
      fun i hi => writeFrom_zero_getElem?_lt _ _ (by omega) length_le, fun k hk high low hhigh hlow => ?_⟩
    rw [loadShadow_storeStg_register t whole hk, hhigh, hlow]
    rfl
  · refine ⟨writeFrom t.stg 0 (got.getD []), (refresh_of_readSeq received).trans (if_neg short),
      fun i hi => writeFrom_zero_getElem?_lt _ _ hi length_le, fun i hi => ?_⟩
    rw [writeFrom_zero_getElem?_ge _ _ hi, frame.stg]

/-! ### Commit (R153) -/

section
variable {s : State}

theorem commitReady_eq_false_iff : commitReady s = false ↔ ∃ i, 2 ≤ i ∧ i ≤ 7 ∧ s.valid[i]? = some false := by
  have unwritten : commitReady s = false ↔ false ∈ (s.valid.toList.drop 2).take 6 := by
    simp [commitReady]
  rw [unwritten, List.mem_iff_getElem?]
  constructor
  · rintro ⟨k, hk⟩
    have bound : k < 6 := (List.getElem?_eq_some_iff.mp hk).1.trans_le (List.length_take_le _ _)
    rw [List.getElem?_take_of_lt bound, List.getElem?_drop, Vector.getElem?_toList] at hk
    exact ⟨2 + k, by omega, by omega, hk⟩
  · rintro ⟨i, low, high, hi⟩
    refine ⟨i - 2, ?_⟩
    rw [List.getElem?_take_of_lt (by omega), List.getElem?_drop, Vector.getElem?_toList, Nat.add_sub_cancel' low, hi]

theorem commitReady_of_written (h : ∀ i, 2 ≤ i → i ≤ 7 → s.valid[i]? = some true) : commitReady s = true := by
  refine Bool.eq_true_of_not_eq_false fun unwritten => ?_
  obtain ⟨i, low, high, hfalse⟩ := commitReady_eq_false_iff.mp unwritten
  rw [h i low high] at hfalse
  cases hfalse

theorem commit_of_unwritten (h : ∃ i, 2 ≤ i ∧ i ≤ 7 ∧ s.valid[i]? = some false) :
    commit s = .error .shadowUnwritten := by
  rw [commit, commitReady_eq_false_iff.mpr h]
  rfl

theorem commit_of_written (h : ∀ i, 2 ≤ i → i ≤ 7 → s.valid[i]? = some true) {count : Option Nat} {t : State}
    (sent : writeSeq s.params.tunerAddr (commitBytes s) (storeStg (commitBytes s) s) = (count, t)) :
    commit s = .ok (decide (count = some 12), t) := by
  rw [commit, if_pos (commitReady_of_written h), sent, writeLen]

end

theorem shadow_two_to_seven (s : State) : (s.shadow.toList.drop 2).take 6 =
    [s.shadow[2], s.shadow[3], s.shadow[4], s.shadow[5], s.shadow[6], s.shadow[7]] := by
  refine List.ext_getElem (by simp) fun i _ hi => ?_
  have bound : i < 6 := hi
  rw [List.getElem_take, List.getElem_drop, Vector.getElem_toList]
  interval_cases i <;> rfl

/-- R153: the six registers that a commit sends, each with its high byte first. -/
theorem commitBytes_eq (s : State) : commitBytes s =
    [s.shadow[2].extractLsb' 8 8, s.shadow[2].extractLsb' 0 8, s.shadow[3].extractLsb' 8 8,
     s.shadow[3].extractLsb' 0 8, s.shadow[4].extractLsb' 8 8, s.shadow[4].extractLsb' 0 8,
     s.shadow[5].extractLsb' 8 8, s.shadow[5].extractLsb' 0 8, s.shadow[6].extractLsb' 8 8,
     s.shadow[6].extractLsb' 0 8, s.shadow[7].extractLsb' 8 8, s.shadow[7].extractLsb' 0 8] := by
  rw [commitBytes, shadow_two_to_seven]
  rfl

theorem length_commitBytes (s : State) : (commitBytes s).length = 12 := congrArg List.length (commitBytes_eq s)

theorem writeSeq_frame (slave : BitVec 7) (src : List Byte) (s : State) : BusFrame s (writeSeq slave src s).2 := by
  obtain ⟨u, hframe, -, hu⟩ := writeSeq_ends_with_stop slave src s
  exact hu ▸ hframe.trans (busStop_frame u)

/-- Settles O29: the bytes go to STG first, and the write transaction leaves the shadow file alone. -/
theorem commitSendsRegistersTwoToSeven : Obligations.CommitSendsRegistersTwoToSeven := by
  refine fun s => ⟨commit_of_unwritten, fun written bytes hbytes => ?_⟩
  rw [← commitBytes_eq s] at hbytes
  subst hbytes
  have length_bytes := length_commitBytes s
  refine ⟨writeFrom s.stg 0 (commitBytes s), fun i hi => writeFrom_zero_getElem?_lt _ _ (by omega) (by omega),
    fun i hi => writeFrom_zero_getElem?_ge _ _ (by omega), fun count t sent => ?_⟩
  have frame := writeSeq_frame s.params.tunerAddr (commitBytes s) (storeStg (commitBytes s) s)
  rw [show writeSeq _ _ (storeStg (commitBytes s) s) = (count, t) from sent] at frame
  exact ⟨commit_of_written written sent, frame.shadow, frame.valid⟩

/-! ### RF_REFRESH and RF_COMMIT (R154, R156) -/

/-- R252: how a command that uses the bus reports success or failure. -/
theorem complete_busOutcome (ok : Bool) (s : State) : complete (boolWord ok) (busOutcome ok) s =
    { s with result := if ok then 1 else 0, err := if ok then .ok else .busFailure } := rfl

theorem exec_rfRefresh {s t : State} {ok : Bool} (idle : s.phase = .idle) (h : refresh s = (ok, t)) :
    exec .rfRefresh s = .next { t with result := if ok then 1 else 0, err := if ok then .ok else .busFailure } := by
  have body : exec .rfRefresh s = .next (complete (boolWord (refresh s).1) (busOutcome (refresh s).1) (refresh s).2) :=
    guarded_legal .rfRefresh s _ rfl (decide_eq_true idle)
  rw [body, h, complete_busOutcome]

theorem exec_rfCommit {s : State} (idle : s.phase = .idle) : exec .rfCommit s = commitAndReport s :=
  guarded_legal .rfCommit s _ rfl (decide_eq_true idle)

/-- Settles O30: RF_REFRESH reports its refresh; RF_COMMIT stops where the commit stops, and else reports it. -/
theorem rfRefreshAndRfCommitReport : Obligations.RfRefreshAndRfCommitReport := by
  refine ⟨rfl, rfl, fun s => ⟨fun wrong => ?_, fun idle ok t refreshed => ?_, fun idle unwritten => ?_,
    fun idle written => ?_⟩⟩
  · exact ⟨exec_of_illegal_phase rfl (decide_eq_false wrong), exec_of_illegal_phase rfl (decide_eq_false wrong)⟩
  · have frame := refresh_frame s
    rw [refreshed] at frame
    exact ⟨exec_rfRefresh idle refreshed, frame⟩
  · rw [exec_rfCommit idle, commitAndReport, withCommit_error _ _ _ (commit_of_unwritten unwritten)]
  · have committed := commit_of_written written rfl
    exact ⟨_, _, committed, by
      rw [exec_rfCommit idle, commitAndReport, withCommit_ok _ _ _ _ committed, complete_busOutcome]⟩

/-! ### RF_SET (R155) -/

section
variable {s : State}

theorem formLegal_value16_iff (w : Word) : formLegal .value16 w = true ↔ w.toNat ≤ 0xFFFF :=
  (high_zero_iff_lt w rfl).trans Nat.lt_succ_iff

theorem operandsLegal_rfSet_iff :
    operandsLegal .rfSet s = true ↔ (2 ≤ s.larg[0].toNat ∧ s.larg[0].toNat ≤ 7) ∧ s.larg[1].toNat ≤ 0xFFFF :=
  (operandsLegal_iff_of_two rfl).trans (and_congr (formLegal_index_iff _) (formLegal_value16_iff _))

theorem indexOperand_eq {i : Fin 16} (h : s.larg[0].toNat = i.val) : indexOperand 0 s = i :=
  (congrArg (Fin.ofNat 16) h).trans (Fin.ofNat_val_eq_self i)

theorem halfOperand_eq : halfOperand 1 s = s.larg[1].setWidth 16 :=
  (BitVec.setWidth_eq_extractLsb' (by decide)).symm

theorem exec_rfSet {i : Fin 16} (legal : operandsLegal .rfSet s = true) (h : s.larg[0].toNat = i.val) :
    exec .rfSet s = .next { s with shadow := s.shadow.set i (s.larg[1].setWidth 16), valid := s.valid.set i true,
                                   result := 1, err := .ok } := by
  obtain rfl := indexOperand_eq h
  rw [← halfOperand_eq]
  exact guarded_legal .rfSet s _ legal rfl

end

/-- Settles O31: a legal index names its register, and a legal value fits it. -/
theorem rfSetWritesOneConfigurationRegister : Obligations.RfSetWritesOneConfigurationRegister := by
  refine ⟨rfl, fun s => ⟨fun illegal => ?_, fun i index low high value => ?_⟩⟩
  · exact exec_of_illegal_operand (by rw [operandsLegal_rfSet_iff]; omega)
  · exact exec_rfSet (operandsLegal_rfSet_iff.mpr ⟨by omega, value⟩) index

end Sys2Proof.Machine

/-! PROOFS. Family 42_tuning: the commands that refresh, change a register and commit, the status queries, the setup of a
tune and its polls (R170-R199, R288). -/
namespace Sys2Proof.Machine
open Sys2Proof

/-! ### A refresh and a commit whose outcome is known (R152, R153) -/

section
variable {s t : State} {ok : Bool}

theorem effect_of_refresh (h : refresh s = (ok, t)) : Effect (· ∈ burstParts) s t := by
  have effect := (effect_refresh (W := (· ∈ burstParts)) (by decide) (by decide) s).1
  rwa [h] at effect

theorem fileWritten_of_refresh (h : refresh s = (true, t)) : FileWritten t := by
  have written := (effect_refresh (W := (· ∈ burstParts)) (by decide) (by decide) s).2
  rw [h] at written
  exact written rfl

theorem withRefresh_of_failed (h : refresh s = (false, t)) (k : State → Result) :
    withRefresh s k = .next { t with result := 0, err := .busFailure } := by
  rw [withRefresh, h]; rfl

theorem withRefresh_of_refreshed (h : refresh s = (true, t)) (k : State → Result) : withRefresh s k = k t := by
  rw [withRefresh, h]; rfl

theorem refreshAndReport_of_failed (h : refresh s = (false, t)) (value : State → Word) :
    refreshAndReport value s = .next { t with result := 0, err := .busFailure } := by
  rw [refreshAndReport, h]; rfl

theorem refreshAndReport_of_refreshed (h : refresh s = (true, t)) (value : State → Word) :
    refreshAndReport value s = .next { t with result := value t, err := .ok } := by
  rw [refreshAndReport, h]; rfl

/-- R153: once the file is written, a command goes on with the outcome of its commit. -/
theorem withCommit_of_fileWritten (h : FileWritten s) (k : Bool → State → Result) :
    ∃ (c : Bool) (u : State), commit s = .ok (c, u) ∧ withCommit s k = k c u := by
  obtain ⟨c, u, -, -, committed⟩ := commit_of_all_valid s h
  exact ⟨c, _, committed, withCommit_ok _ _ _ _ committed⟩

/-! ### The poll of the tune-complete bit (R174) -/

theorem isReadySeq_of_not_done (h : refresh s = (ok, t))
    (notDone : ok = false ∨ t.shadow[10].getLsbD s.params.fields.stc = false) (k : Bool → Bool → State → Result) :
    isReadySeq s k = k false ok t := by
  rw [← (effect_of_refresh h).params] at notDone
  rw [isReadySeq, h]
  cases ok with
  | false => rfl
  | true =>
    have incomplete : tuneComplete t = false := notDone.resolve_left Bool.noConfusion
    simp only [incomplete, if_true, if_false, Bool.false_eq_true]

theorem isReadySeq_of_done (h : refresh s = (true, t)) (done : t.shadow[10].getLsbD s.params.fields.stc = true)
    (k : Bool → Bool → State → Result) :
    ∃ (c : Bool) (u : State),
      commit { t with shadow := t.shadow.set 3 (setBit t.shadow[3] s.params.fields.tune false) } = .ok (c, u) ∧
      isReadySeq s k = k true c u := by
  rw [← (effect_of_refresh h).params] at done ⊢
  have written : FileWritten t := fileWritten_of_refresh h
  obtain ⟨c, u, committed, next⟩ := withCommit_of_fileWritten (s := setTuneBit false t) written (k true)
  have complete : tuneComplete t = true := done
  refine ⟨c, u, committed, ?_⟩
  rw [← next, isReadySeq, h]
  simp only [complete, if_true]

end

/-! ### The setup of a tune (R175) -/

section
variable {s t : State} {sp chan : Nat}

/-- R175: the channel and the tune request go to register 3 in one update. -/
theorem requestChannel_eq (c : BitVec 10) (t : State) :
    requestChannel c t =
      { t with
        shadow := t.shadow.set 3 (setBit (setChannel t.shadow[3] t.params.fields.chan c) t.params.fields.tune true) } := by
  simp [requestChannel, setTuneBit, setShadow]

theorem exec_tuneSetFreq_of_unwritten (idle : s.phase = .idle) (h : s.valid[5] = false) :
    exec .tuneSetFreq s = .fault .shadowUnwritten :=
  (guarded_legal .tuneSetFreq s _ rfl (decide_eq_true idle)).trans (by rw [h]; rfl)

theorem exec_tuneSetFreq_of_reserved (idle : s.phase = .idle) (h : s.valid[5] = true) (hsp : channelSpacing s = none) :
    exec .tuneSetFreq s = .next { s with result := 0, err := .illegalConfig } :=
  (guarded_legal .tuneSetFreq s _ rfl (decide_eq_true idle)).trans (by rw [h, hsp]; rfl)

/-- R173, R175: past the checks of register 5 the channel of the operand decides. -/
theorem exec_tuneSetFreq_of_channel (idle : s.phase = .idle) (h : s.valid[5] = true) (hsp : channelSpacing s = some sp)
    (hchan : chan = channelOf (bandMinimum s) (bandMaximum s) sp s.larg[0].toInt) :
    exec .tuneSetFreq s = if 1023 < chan then .fault .channelRange else startTune (BitVec.ofNat 10 chan) s :=
  (guarded_legal .tuneSetFreq s _ rfl (decide_eq_true idle)).trans (by rw [h, hsp, hchan]; rfl)

theorem startTune_of_refreshed (c : BitVec 10) (h : refresh s = (true, t)) :
    ∃ (ok : Bool) (u : State),
      commit { t with
        shadow := t.shadow.set 3 (setBit (setChannel t.shadow[3] s.params.fields.chan c) s.params.fields.tune true) } =
          .ok (ok, u) ∧
      startTune c s = .next (if ok then { u with polls := 0, seq := .tuning }
                             else { u with result := 0, err := .busFailure }) := by
  rw [← (effect_of_refresh h).params, ← requestChannel_eq c t, startTune, withRefresh_of_refreshed h]
  have written : FileWritten t := fileWritten_of_refresh h
  exact withCommit_of_fileWritten (s := requestChannel c t) written _

end

/-- Settles O35: the checks of register 5 in their order, then the channel, then the two bursts. -/
theorem tuneSetFreqRequestsAChannel : Obligations.TuneSetFreqRequestsAChannel := by
  refine ⟨rfl, fun s => ⟨fun wrong => exec_of_illegal_phase rfl (decide_eq_false wrong), exec_tuneSetFreq_of_unwritten,
    fun idle written reserved => ?_, fun sp chan idle written hsp hchan => ?_⟩⟩
  · exact exec_tuneSetFreq_of_reserved idle written
      ((channelSpacing_of_spaceCode reserved).trans (spacingFor_three _))
  · rw [exec_tuneSetFreq_of_channel idle written hsp hchan]
    refine ⟨fun above => if_pos above, fun inRange t failed => ?_, fun inRange t v refreshed hv => ?_⟩
    · rw [if_neg (by omega), startTune, withRefresh_of_failed failed]
    · rw [if_neg (by omega), hv]
      exact startTune_of_refreshed _ refreshed

/-! ### A poll of a tune in progress (R177-R179) -/

section
variable {s t : State} {ok : Bool}

theorem pollsExhausted_eq_true_iff {p : Params} {polls : Nat} :
    pollsExhausted p polls = true ↔ ∃ n, p.maxTunePolls = some n ∧ n ≤ polls := by
  simp only [pollsExhausted, Option.any_eq_true, decide_eq_true_eq]

/-- R23: a controller's turn while a tune is in progress is a poll, off the schedule. -/
theorem step_of_tuning (tuning : s.seq = .tuning) (hturn : nextTurn s = .controller) :
    step s = pollIteration (takeOff s) := by
  rw [step_of_controller hturn]
  simp only [controllerStep, takeOff, tuning]

/-- R179: a poll that does not complete is counted, and the count decides whether the tune goes on. -/
theorem pollIteration_of_not_done (h : refresh s = (ok, t))
    (notDone : ok = false ∨ t.shadow[10].getLsbD s.params.fields.stc = false) :
    pollIteration s = if pollsExhausted s.params (s.polls + 1) then tuneTimeout { t with polls := s.polls + 1 }
      else .next { t with polls := s.polls + 1 } := by
  have effect := effect_of_refresh h
  obtain ⟨-, polls⟩ := effect.sequencer (by decide)
  rw [pollIteration, isReadySeq_of_not_done h notDone, ← effect.params, ← polls]
  rfl

/-- R178: the clearing commit of a timeout is made, and its outcome ignored. -/
theorem tuneTimeout_of_fileWritten (written : FileWritten t) :
    ∃ (c : Bool) (u : State),
      commit { t with shadow := t.shadow.set 3 (setBit t.shadow[3] t.params.fields.tune false) } = .ok (c, u) ∧
      tuneTimeout t = .next { u with seq := .idle, result := 0, err := .tuneTimeout } :=
  withCommit_of_fileWritten (s := setTuneBit false t) written _

end

/-- Settles O36: the poll is counted below the bound and times out at it; the poll that sees the chip complete ends the
tune. -/
theorem pollOfATuneInProgress : Obligations.PollOfATuneInProgress := by
  intro s t ok tuning hturn (refreshed : refresh (takeOff s) = (ok, t))
  have effect := effect_of_refresh refreshed
  rw [step_of_tuning tuning hturn]
  refine ⟨fun notDone below => ?_, fun notDone n bound reached written => ?_, fun succeeded done => ?_⟩
  · have goesOn : ¬ pollsExhausted s.params (s.polls + 1) = true := by
      rw [pollsExhausted_eq_true_iff]
      rintro ⟨n, bound, reached⟩
      exact absurd (below n bound) (by omega)
    exact (pollIteration_of_not_done refreshed notDone).trans (if_neg goesOn)
  · have exhausted : pollsExhausted s.params (s.polls + 1) = true :=
      pollsExhausted_eq_true_iff.mpr ⟨n, bound, reached⟩
    have stillWritten : FileWritten t := effect.fileWritten (by decide) written
    rw [(pollIteration_of_not_done refreshed notDone).trans (if_pos exhausted),
      ← show t.params = s.params from effect.params]
    exact tuneTimeout_of_fileWritten (t := { t with polls := s.polls + 1 }) stillWritten
  · subst succeeded
    exact isReadySeq_of_done refreshed done _

/-! ### A tune that no poll ends (R179, R288) -/

section
variable {s : State} {a : BusAnswer} {rest : List BusAnswer}

/-- The state after a start that got the code `sc` and the stop that follows it. -/
def startFailed (sc : Byte) (rest : List BusAnswer) (s : State) : State :=
  { s with answers := rest, draws := s.draws + 1, history := s.history ++ [.start sc, .stop], bsc := s.params.sc.noInfo,
           phase := .idle }

theorem refresh_of_start_failed (hanswers : s.answers = a :: rest) (failed : startOk s.params.sc a.sc = false) :
    refresh s = (false, startFailed a.sc rest s) := by
  have answer : nextAnswer .start s = a := nextAnswer_listed .start s a rest hanswers
  have notOpened : openSeq s.params.tunerAddr true s = (false, startFailed a.sc rest s) := by
    rw [openSeq_of_start_failed _ _ s (by rw [busStart_eq, answer]; exact failed), busStart_eq, answer]
    simp [busStop, recordEvent, startFailed, hanswers]
  rw [refresh_of_readSeq (readSeq_of_not_opened notOpened)]
  rfl

/-- R179: with MAX_TUNE_POLLS = INF a poll that gets no start condition is counted, and does nothing else. -/
theorem step_of_unanswered_poll (tuning : s.seq = .tuning) (hschedule : s.schedule = [])
    (unbounded : s.params.maxTunePolls = none) (hanswers : s.answers = a :: rest)
    (failed : startOk s.params.sc a.sc = false) :
    step s = .next { startFailed a.sc rest s with polls := s.polls + 1 } := by
  have turn : nextTurn s = .controller := by rw [nextTurn, hschedule]; rfl
  have off : takeOff s = s := by rw [takeOff, hschedule, List.tail_nil, ← hschedule]
  have goesOn : pollsExhausted s.params (s.polls + 1) = false := by rw [pollsExhausted, unbounded]; rfl
  rw [step_of_tuning tuning turn, off, pollIteration_of_not_done (refresh_of_start_failed hanswers failed) (.inl rfl),
    goesOn]
  rfl

end

theorem busy_of_tuning {s : State} (h : s.seq = .tuning) : busy s = true := by simp [busy, h]

theorem run_succ_of_step {M : Host.Core} {n : Nat} {s u : M.State} (h : M.step s = .next u) :
    M.run (n + 1) s = M.run n u := by rw [Host.Core.run, h]

/-- Settles O37, by induction on the steps: each takes one answer and leaves the tune in progress. -/
theorem unansweredTuneNeverEnds : Obligations.UnansweredTuneNeverEnds := by
  intro n
  induction n with
  | zero =>
    intro s a rest tuning _ _ _ hanswers
    exact ⟨s, rfl, tuning, busy_of_tuning tuning, rfl, hanswers, (List.append_nil _).symm, rfl, rfl⟩
  | succ n ih =>
    intro s a rest tuning hschedule unbounded failed hanswers
    have polled := step_of_unanswered_poll tuning hschedule unbounded hanswers failed
    obtain ⟨t, run, tuning', busy', polls, answers, history, result, err⟩ :=
      ih { startFailed a.sc (List.replicate n a ++ rest) s with polls := s.polls + 1 } a rest tuning hschedule unbounded
        failed rfl
    refine ⟨t, (run_succ_of_step polled).trans run, tuning', busy', ?_, answers, ?_, result, err⟩
    · rw [polls, Nat.add_assoc, Nat.add_comm 1]
    · rw [history, List.replicate_succ, List.flatten_cons, ← List.append_assoc]
      rfl

/-! ### The chip's channel and the tune-complete bit (R180, R181) -/

section
variable {s t : State}

theorem exec_tuneGetFreq_of_failed (idle : s.phase = .idle) (h : refresh s = (false, t)) :
    exec .tuneGetFreq s = .next { t with result := 0, err := .busFailure } :=
  (guarded_legal .tuneGetFreq s _ rfl (decide_eq_true idle)).trans (by rw [h]; rfl)

theorem exec_tuneGetFreq_of_reserved (idle : s.phase = .idle) (h : refresh s = (true, t))
    (hsp : channelSpacing t = none) : exec .tuneGetFreq s = .next { t with result := 0, err := .illegalConfig } :=
  (guarded_legal .tuneGetFreq s _ rfl (decide_eq_true idle)).trans (by simp only [h, hsp]; rfl)

theorem exec_tuneGetFreq_of_spacing {sp : Nat} (idle : s.phase = .idle) (h : refresh s = (true, t))
    (hsp : channelSpacing t = some sp) :
    exec .tuneGetFreq s =
      .next { t with result := BitVec.ofNat 32 (frequencyOf (reportedChannel t) sp (bandMinimum t)), err := .ok } :=
  (guarded_legal .tuneGetFreq s _ rfl (decide_eq_true idle)).trans (by simp only [h, hsp]; rfl)

end

/-- Settles O38: the refresh, then the spacing code of the fresh register 5. -/
theorem tuneGetFreqReportsTheChipsChannel : Obligations.TuneGetFreqReportsTheChipsChannel := by
  refine ⟨rfl, fun s => ⟨fun wrong => exec_of_illegal_phase rfl (decide_eq_false wrong), fun idle t =>
    ⟨exec_tuneGetFreq_of_failed idle, fun refreshed reserved => ?_, fun sp refreshed hsp => ?_⟩⟩⟩
  · exact exec_tuneGetFreq_of_reserved idle refreshed
      ((channelSpacing_of_spaceCode reserved).trans (spacingFor_three _))
  · rw [← (effect_of_refresh refreshed).params]
    exact exec_tuneGetFreq_of_spacing idle refreshed hsp

theorem exec_tuneIsReady {s : State} (idle : s.phase = .idle) :
    exec .tuneIsReady s =
      isReadySeq s fun done ok t => .next { t with result := if done then 1 else 0,
                                                   err := if ok then .ok else .busFailure } :=
  guarded_legal .tuneIsReady s _ rfl (decide_eq_true idle)

/-- Settles O39: the two ways not to be done, then the poll that is. -/
theorem tuneIsReadyClearsTheRequest : Obligations.TuneIsReadyClearsTheRequest := by
  refine ⟨rfl, fun s => ⟨fun wrong => exec_of_illegal_phase rfl (decide_eq_false wrong), fun idle t => ?_⟩⟩
  rw [exec_tuneIsReady idle]
  exact ⟨fun failed => isReadySeq_of_not_done failed (.inl rfl) _,
    fun refreshed incomplete => isReadySeq_of_not_done refreshed (.inr incomplete) _,
    fun refreshed done => isReadySeq_of_done refreshed done _⟩

/-! ### The band limits (R182, R183) -/

section
variable {s : State}

theorem exec_tuneGetMin (s : State) : exec .tuneGetMin s = reportLimit bandMinimum s :=
  guarded_legal .tuneGetMin s _ rfl rfl

theorem exec_tuneGetMax (s : State) : exec .tuneGetMax s = reportLimit bandMaximum s :=
  guarded_legal .tuneGetMax s _ rfl rfl

theorem reportLimit_of_unwritten (h : s.valid[5] = false) (limit : State → Nat) :
    reportLimit limit s = .fault .shadowUnwritten := by rw [reportLimit, h]; rfl

theorem reportLimit_of_written (h : s.valid[5] = true) (limit : State → Nat) :
    reportLimit limit s = .next { s with result := BitVec.ofNat 32 (limit s), err := .ok } := by
  rw [reportLimit, h]; rfl

end

/-- Settles O40: both limits are read alike, once register 5 is written. -/
theorem bandLimitsComeFromTheShadow : Obligations.BandLimitsComeFromTheShadow := by
  refine ⟨rfl, rfl, fun s => ?_⟩
  rw [exec_tuneGetMin, exec_tuneGetMax]
  refine ⟨fun unwritten => ⟨reportLimit_of_unwritten unwritten _, reportLimit_of_unwritten unwritten _⟩, ?_⟩
  rintro written band rfl
  exact ⟨reportLimit_of_written written _, reportLimit_of_written written _⟩

/-! ### Queries of the fresh registers (R184, R191-R193) -/

section
variable {s : State}

theorem exec_tunerIsConnected (idle : s.phase = .idle) :
    exec .tunerIsConnected s = refreshAndReport (fun t => boolWord (identified t)) s :=
  guarded_legal .tunerIsConnected s _ rfl (decide_eq_true idle)

theorem exec_tunerIsTuned (idle : s.phase = .idle) :
    exec .tunerIsTuned s = refreshAndReport (fun t => boolWord (tuneComplete t)) s :=
  guarded_legal .tunerIsTuned s _ rfl (decide_eq_true idle)

theorem exec_tunerIsStereo (idle : s.phase = .idle) :
    exec .tunerIsStereo s = refreshAndReport (fun t => boolWord (t.shadow[10].getLsbD t.params.fields.st)) s :=
  guarded_legal .tunerIsStereo s _ rfl (decide_eq_true idle)

theorem exec_tunerGetRssi (idle : s.phase = .idle) :
    exec .tunerGetRssi s =
      refreshAndReport (fun t => (t.shadow[10].extractLsb' t.params.fields.rssi 8).setWidth 32) s :=
  guarded_legal .tunerGetRssi s _ rfl (decide_eq_true idle)

/-- R184: RESULT of TUNER_IS_CONNECTED. -/
theorem boolWord_identified (t : State) :
    boolWord (identified t) = if t.shadow[0] &&& t.params.id0Mask = t.params.id0Expect ∧
      t.shadow[1] &&& t.params.id1Mask = t.params.id1Expect then 1 else 0 := by
  simp only [boolWord, identified, Bool.and_eq_true, decide_eq_true_eq]

end

/-- Settles O41: the expected identifiers are parameters, which a refresh keeps. -/
theorem isConnectedComparesTheIdentifiers : Obligations.IsConnectedComparesTheIdentifiers := by
  refine ⟨rfl, fun s => ⟨fun wrong => exec_of_illegal_phase rfl (decide_eq_false wrong), fun idle t => ?_⟩⟩
  rw [exec_tunerIsConnected idle]
  refine ⟨fun failed => refreshAndReport_of_failed failed _, fun refreshed => ?_⟩
  rw [refreshAndReport_of_refreshed refreshed, boolWord_identified, (effect_of_refresh refreshed).params]

/-- Settles O43: the three queries fail alike, and each reports its own field. -/
theorem statusQueriesReadRegisterTen : Obligations.StatusQueriesReadRegisterTen := by
  refine ⟨rfl, rfl, rfl, fun s => ⟨fun wrong => ?_, fun idle t => ?_⟩⟩
  · simp only [List.forall_mem_cons]
    exact ⟨exec_of_illegal_phase rfl (decide_eq_false wrong), exec_of_illegal_phase rfl (decide_eq_false wrong),
      exec_of_illegal_phase rfl (decide_eq_false wrong), nofun⟩
  · simp only [List.forall_mem_cons]
    rw [exec_tunerIsTuned idle, exec_tunerIsStereo idle, exec_tunerGetRssi idle]
    refine ⟨fun failed => ?_, fun refreshed => ?_⟩
    · have fails := refreshAndReport_of_failed failed
      exact ⟨fails _, fails _, fails _, nofun⟩
    · have reports := refreshAndReport_of_refreshed refreshed
      rw [← (effect_of_refresh refreshed).params]
      exact ⟨reports _, reports _, reports _⟩

/-! ### TUNER_INIT (R190) -/

/-- R190: detector and decoder are reset in the state that is refreshed. -/
theorem exec_tunerInit {s t : State} {ok : Bool} (idle : s.phase = .idle)
    (h : refresh (rdsClear { s with readyEdge := .idle }) = (ok, t)) :
    exec .tunerInit s = .next { t with result := if ok then 1 else 0, err := if ok then .ok else .busFailure } :=
  (guarded_legal .tunerInit s _ rfl (decide_eq_true idle)).trans (by rw [h]; rfl)

/-- Settles O42: what is reset before the refresh is no part of what a refresh writes. -/
theorem tunerInitResetsAndRefreshes : Obligations.TunerInitResetsAndRefreshes := by
  refine ⟨rfl, fun s => ⟨fun wrong => exec_of_illegal_phase rfl (decide_eq_false wrong),
    fun idle ok t refreshed => ?_⟩⟩
  have effect := effect_of_refresh refreshed
  have decoder := effect.decoder (by decide)
  simp only [decoderSide, Prod.mk.injEq] at decoder
  obtain ⟨textAB, rt, wip, ps, pty⟩ := decoder
  refine ⟨exec_tunerInit idle refreshed, effect.detector (by decide), pty, ps, rt, wip, textAB, ?_⟩
  rintro rfl
  exact fileWritten_of_refresh refreshed

/-! ### The commands that change register 2 (R194-R197) -/

section
variable {s t : State}

theorem formLegal_bool_iff (w : Word) : formLegal .bool w = true ↔ w.toNat ≤ 1 :=
  (high_zero_iff_lt w rfl).trans Nat.lt_succ_iff

theorem operandsLegal_iff_of_bool {i : Instr} (h : operandForms i = [(0, .bool)]) :
    operandsLegal i s = true ↔ s.larg[0].toNat ≤ 1 :=
  (operandsLegal_iff_of_one h).trans (formLegal_bool_iff _)

/-- R93: a legal boolean and its complement. -/
theorem bitOperand_eq_decide (h : s.larg[0].toNat ≤ 1) :
    bitOperand 0 s = decide (s.larg[0] = 1) ∧ (!bitOperand 0 s) = decide (s.larg[0] = 0) := by
  have boolean : s.larg[0] = 0 ∨ s.larg[0] = 1 := by bv_omega
  rw [show bitOperand 0 s = s.larg[0].getLsbD 0 from rfl]
  rcases boolean with zero | one
  · rw [zero]; decide
  · rw [one]; decide

theorem exec_tunerSetMono (legal : s.larg[0].toNat ≤ 1) (idle : s.phase = .idle) :
    exec .tunerSetMono s = withRefresh s fun t =>
      commitAndReport (changePower (fun p v => setBit v p.fields.mono (decide (s.larg[0] = 1))) t) := by
  rw [← (bitOperand_eq_decide legal).1]
  exact guarded_legal .tunerSetMono s _ ((operandsLegal_iff_of_bool rfl).mpr legal) (decide_eq_true idle)

theorem exec_tunerSetSoftmute (legal : s.larg[0].toNat ≤ 1) (idle : s.phase = .idle) :
    exec .tunerSetSoftmute s = withRefresh s fun t =>
      commitAndReport (changePower (fun p v => setBit v p.fields.dsmute (decide (s.larg[0] = 0))) t) := by
  rw [← (bitOperand_eq_decide legal).2]
  exact guarded_legal .tunerSetSoftmute s _ ((operandsLegal_iff_of_bool rfl).mpr legal) (decide_eq_true idle)

theorem exec_tunerSleep (idle : s.phase = .idle) :
    exec .tunerSleep s = withRefresh s fun t =>
      commitAndReport (changePower (fun p v => (v &&& ~~~p.pwrMask) ||| p.pwrSleep) t) :=
  guarded_legal .tunerSleep s _ rfl (decide_eq_true idle)

/-- R197: the answer of a wake-up to its commit. -/
def wakeupDone (c : Bool) (u : State) : Result :=
  .next (if c then
      { u with pty := -1, ps := .replicate 8 0, rt := .replicate 64 0, wip := .replicate 64 0, textAB := false,
               result := 1, err := .ok }
    else { u with result := 0, err := .busFailure })

theorem exec_tunerWakeup (idle : s.phase = .idle) :
    exec .tunerWakeup s = withRefresh s fun t =>
      withCommit (changePower (fun p v => (v &&& ~~~p.pwrMask) ||| p.pwrWake) t) wakeupDone := by
  have done : wakeupDone = fun ok u =>
      .next (complete (boolWord ok) (busOutcome ok) (if ok then rdsClear u else u)) := by
    funext ok u
    cases ok <;> rfl
  rw [done]
  exact guarded_legal .tunerWakeup s _ rfl (decide_eq_true idle)

/-- R194-R197: after a refresh that succeeded, the changed register 2 is committed. -/
theorem changePower_of_refreshed (h : refresh s = (true, t)) (f : Params → Half → Half) (k : Bool → State → Result) :
    ∃ (c : Bool) (u : State),
      commit { t with shadow := t.shadow.set 2 (f s.params t.shadow[2]) } = .ok (c, u) ∧
      withRefresh s (fun t => withCommit (changePower f t) k) = k c u := by
  rw [withRefresh_of_refreshed h, ← (effect_of_refresh h).params]
  have written : FileWritten t := fileWritten_of_refresh h
  exact withCommit_of_fileWritten (s := changePower f t) written k

/-- R194-R196: the outcomes of a command that reports its commit of register 2. -/
theorem changePower_reports (f : Params → Half → Half) (t : State) :
    (refresh s = (false, t) → withRefresh s (fun t => commitAndReport (changePower f t)) =
      .next { t with result := 0, err := .busFailure }) ∧
    (refresh s = (true, t) → ∀ v : Half, v = f s.params t.shadow[2] →
      ∃ (c : Bool) (u : State), commit { t with shadow := t.shadow.set 2 v } = .ok (c, u) ∧
        withRefresh s (fun t => commitAndReport (changePower f t)) =
          .next { u with result := if c then 1 else 0, err := if c then .ok else .busFailure }) := by
  refine ⟨fun failed => withRefresh_of_failed failed _, ?_⟩
  rintro refreshed v rfl
  exact changePower_of_refreshed refreshed f _

end

/-- Settles O44: the two commands differ in the bit of register 2 alone. -/
theorem monoAndSoftmuteCommitOneBit : Obligations.MonoAndSoftmuteCommitOneBit := by
  refine ⟨rfl, rfl, fun s i hi => ?_⟩
  have forms : operandForms i = [(0, .bool)] := by
    rcases List.mem_pair.mp hi with rfl | rfl <;> rfl
  have allowed : phaseAllowed i s.phase = decide (s.phase = .idle) := by
    rcases List.mem_pair.mp hi with rfl | rfl <;> rfl
  have legal_iff : operandsLegal i s = true ↔ s.larg[0].toNat ≤ 1 := operandsLegal_iff_of_bool forms
  refine ⟨fun above => exec_of_illegal_operand (by rw [legal_iff]; omega), fun legal wrong => ?_,
    fun legal idle t => ?_⟩
  · exact exec_of_illegal_phase (legal_iff.mpr legal) (allowed.trans (decide_eq_false wrong))
  · rcases List.mem_pair.mp hi with rfl | rfl
    · rw [exec_tunerSetMono legal idle]
      exact changePower_reports (fun p v => setBit v p.fields.mono (decide (s.larg[0] = 1))) t
    · rw [exec_tunerSetSoftmute legal idle]
      exact changePower_reports (fun p v => setBit v p.fields.dsmute (decide (s.larg[0] = 0))) t

/-- Settles O45: both commit their power bits; the answer to a wake-up's commit is `wakeupDone`. -/
theorem sleepAndWakeupCommitThePowerBits : Obligations.SleepAndWakeupCommitThePowerBits := by
  refine ⟨rfl, rfl, fun s => ⟨fun wrong => ?_, fun idle t => ?_⟩⟩
  · simp only [List.forall_mem_cons]
    exact ⟨exec_of_illegal_phase rfl (decide_eq_false wrong), exec_of_illegal_phase rfl (decide_eq_false wrong), nofun⟩
  · simp only [List.forall_mem_cons]
    rw [exec_tunerSleep idle, exec_tunerWakeup idle]
    obtain ⟨failed, committed⟩ := changePower_reports (s := s) (fun p v => (v &&& ~~~p.pwrMask) ||| p.pwrSleep) t
    exact ⟨fun h => ⟨failed h, withRefresh_of_failed h _, nofun⟩, fun h => ⟨committed h _ rfl,
      changePower_of_refreshed h (fun p v => (v &&& ~~~p.pwrMask) ||| p.pwrWake) wakeupDone⟩⟩

/-! ### The seeks (R198, R199) -/

/-- Settles O46: neither command has an operand or a phase to check. -/
theorem seeksAreNoOps : Obligations.SeeksAreNoOps :=
  ⟨rfl, rfl, fun s => ⟨guarded_legal .tuneSeekUp s _ rfl rfl, guarded_legal .tuneSeekDown s _ rfl rfl⟩⟩

end Sys2Proof.Machine

/-! PROOFS. Family 43_rds: the group decoder (R212-R219), the ready-edge detector (R220, R221) and the RDS commands
(R221-R223). -/
namespace Sys2Proof.Machine
open Sys2Proof

/-! ### The handler of a group (R214, R219) -/

section
variable {b : Half}

theorem decodeGroup_of_group0 (h : groupCode b = 0 ∨ groupCode b = 1) (a c d : Half) (s : State) :
    decodeGroup a b c d s = (true, group0 b d s) := by
  rcases h with code | code <;> rw [decodeGroup, code] <;> rfl

theorem decodeGroup_of_group2A (h : groupCode b = 4) (a c d : Half) (s : State) :
    decodeGroup a b c d s = (true, group2A b c d s) := by
  rw [decodeGroup, h]; rfl

theorem decodeGroup_of_group2B (h : groupCode b = 5) (a c d : Half) (s : State) :
    decodeGroup a b c d s = (true, group2B b d s) := by
  rw [decodeGroup, h]; rfl

/-- R219: no other code has a handler. -/
theorem decodeGroup_of_unhandled (h0 : groupCode b ≠ 0) (h1 : groupCode b ≠ 1) (h4 : groupCode b ≠ 4)
    (h5 : groupCode b ≠ 5) (a c d : Half) (s : State) : decodeGroup a b c d s = (false, s) := by
  unfold decodeGroup
  split
  next code => exact absurd (BitVec.eq_of_toNat_eq code) h0
  next code => exact absurd (BitVec.eq_of_toNat_eq code) h1
  next code => exact absurd (BitVec.eq_of_toNat_eq code) h4
  next code => exact absurd (BitVec.eq_of_toNat_eq code) h5
  next => rfl

end

/-! ### Characters written one after the other (R215, R217, R218) -/

theorem writeFrom_nil {α : Type} {n : Nat} (v : Vector α n) (place : Nat) : writeFrom v place [] = v := rfl

/-- The first element of a list lands in its place, and no later one overwrites it. -/
theorem writeFrom_cons_getElem? {α : Type} {n i : Nat} (hi : i < n) (v : Vector α n) (place : Nat) (x : α) (xs : List α) :
    (writeFrom v place (x :: xs))[i]? = if i = place then some x else (writeFrom v (place + 1) xs)[i]? := by
  by_cases here : i = place
  · subst here
    rw [if_pos rfl, writeFrom, writeFrom_getElem?, if_neg (by omega), Vector.getElem?_setIfInBounds_self_of_lt hi]
  · rw [if_neg here, writeFrom, writeFrom_getElem?, writeFrom_getElem?,
      Vector.getElem?_setIfInBounds_ne (Ne.symm here)]

/-! ### The text channel flag (R216) -/

/-- R216: what the flag does to the published text, the text in progress and TEXT_AB. -/
theorem textFlag_eq (ab : Bool) (s : State) :
    textFlag ab s = { s with rt := if ab = s.textAB then s.rt else s.wip,
                             wip := if ab = s.textAB then s.wip else .replicate 64 0, textAB := ab } := by
  by_cases same : ab = s.textAB
  · subst same; simp [textFlag]
  · simp [textFlag, same]

theorem textFlag_wip_getElem? (ab : Bool) (s : State) {i : Nat} (hi : i < 64) :
    (textFlag ab s).wip[i]? = if ab = s.textAB then s.wip[i]? else some 0 := by
  rw [textFlag_eq]
  split
  · rfl
  · exact Vector.getElem?_replicate_of_lt hi

/-- R216-R218: the flag's effect, with the characters written into the text in progress it leaves. -/
theorem writeText_textFlag (place : Nat) (chars : List Byte) (ab : Bool) (s : State) :
    writeText place chars (textFlag ab s) =
      { s with rt := if ab = s.textAB then s.rt else s.wip,
               wip := writeFrom (textFlag ab s).wip place (chars.map cr), textAB := ab } := by
  rw [writeText, textFlag_eq]

/-! ### Groups 0, 2A and 2B (R212-R218) -/

/-- Settles O49: the handler writes the two bytes of block D next to each other. -/
theorem groupZeroSetsNameAndType : Obligations.GroupZeroSetsNameAndType := by
  intro a b c d s code
  refine ⟨writeFrom s.ps (2 * (seg2 b).toNat) [hi d, lo d], ?_, fun i inside => ?_⟩
  · rw [decodeGroup_of_group0 code, group0, ← BitVec.ofNat_toNat]; rfl
  · simp only [writeFrom_cons_getElem? inside, writeFrom_nil]; rfl

/-- Settles O50: the flag first, then the four bytes of blocks C and D. -/
theorem groupTwoAWritesFourCharacters : Obligations.GroupTwoAWritesFourCharacters := by
  intro a b c d s code
  refine ⟨writeFrom (textFlag (abFlag b) s).wip (4 * (seg4 b).toNat) ([hi c, lo c, hi d, lo d].map cr), ?_,
    fun i inside => ?_⟩
  · rw [decodeGroup_of_group2A code, group2A, writeText_textFlag]; rfl
  · simp only [List.map, writeFrom_cons_getElem? inside, writeFrom_nil, textFlag_wip_getElem? _ s inside]; rfl

/-- Settles O51: the flag first, then the two bytes of block D. -/
theorem groupTwoBWritesTwoCharacters : Obligations.GroupTwoBWritesTwoCharacters := by
  intro a b c d s code
  refine ⟨writeFrom (textFlag (abFlag b) s).wip (2 * (seg4 b).toNat) ([hi d, lo d].map cr), ?_, fun i inside => ?_⟩
  · rw [decodeGroup_of_group2B code, group2B, writeText_textFlag]; rfl
  · simp only [List.map, writeFrom_cons_getElem? inside, writeFrom_nil, textFlag_wip_getElem? _ s inside]; rfl

/-! ### The ready-edge detector and RDS_POLL (R220, R221) -/

section
variable {s t : State}

theorem readyEdgePoll_of_rise (idle : t.readyEdge = .idle) (ready : t.shadow[10].getLsbD t.params.fields.rdsr = true) :
    readyEdgePoll t = complete 1 .ok (decodeGroup t.shadow[12] t.shadow[13] t.shadow[14] t.shadow[15]
      { t with readyEdge := .armedForFall }).2 := by
  simp only [readyEdgePoll, idle, ready]

theorem readyEdgePoll_of_idle (idle : t.readyEdge = .idle) (ready : t.shadow[10].getLsbD t.params.fields.rdsr = false) :
    readyEdgePoll t = { t with result := 0, err := .ok } := by
  simp only [readyEdgePoll, idle, ready, complete]

theorem readyEdgePoll_of_fall (armed : t.readyEdge = .armedForFall)
    (ready : t.shadow[10].getLsbD t.params.fields.rdsr = false) :
    readyEdgePoll t = { t with readyEdge := .idle, result := 0, err := .ok } := by
  simp only [readyEdgePoll, armed, ready, complete]

theorem readyEdgePoll_of_armed (armed : t.readyEdge = .armedForFall)
    (ready : t.shadow[10].getLsbD t.params.fields.rdsr = true) :
    readyEdgePoll t = { t with result := 0, err := .ok } := by
  simp only [readyEdgePoll, armed, ready, complete]

theorem exec_rdsPoll_of_failed (idle : s.phase = .idle) (h : refresh s = (false, t)) :
    exec .rdsPoll s = .next { t with result := 0, err := .busFailure } :=
  (guarded_legal .rdsPoll s _ rfl (decide_eq_true idle)).trans (by rw [h]; rfl)

theorem exec_rdsPoll_of_refreshed (idle : s.phase = .idle) (h : refresh s = (true, t)) :
    exec .rdsPoll s = .next (readyEdgePoll t) :=
  (guarded_legal .rdsPoll s _ rfl (decide_eq_true idle)).trans (by rw [h]; rfl)

end

/-- Settles O47: a refresh keeps the detector, so its four transitions start from RE_STATE as the command found it. -/
theorem rdsPollDecodesOnARise : Obligations.RdsPollDecodesOnARise := by
  refine ⟨rfl, fun s => ⟨fun wrong => exec_of_illegal_phase rfl (decide_eq_false wrong), fun idle t =>
    ⟨fun failed => ?_, fun refreshed edge ready handled u decoded => ?_, fun refreshed edge ready => ?_,
      fun refreshed edge ready => ?_, fun refreshed edge ready => ?_⟩⟩⟩
  · have effect := effect_of_refresh failed
    have decoder := effect.decoder (by decide)
    simp only [decoderSide, Prod.mk.injEq] at decoder
    obtain ⟨textAB, rt, wip, ps, pty⟩ := decoder
    have frame := refresh_frame s
    rw [failed] at frame
    obtain ⟨-, -, -, file⟩ := frame
    exact ⟨exec_rdsPoll_of_failed idle failed, effect.detector (by decide), ps, rt, wip, textAB, pty, file rfl⟩
  all_goals
    have effect := effect_of_refresh refreshed
    rw [← effect.detector (by decide)] at edge
    rw [← effect.params] at ready
    rw [exec_rdsPoll_of_refreshed idle refreshed]
  · rw [readyEdgePoll_of_rise edge ready, decoded]; rfl
  · rw [readyEdgePoll_of_idle edge ready]
  · rw [readyEdgePoll_of_fall edge ready]
  · rw [readyEdgePoll_of_armed edge ready]

/-! ### RDS_DECODE and RDS_RESET (R211, R222, R223) -/

section
variable {s : State}

theorem formLegal_block_iff (w : Word) : formLegal .block w = true ↔ w.toNat ≤ 0xFFFF :=
  (high_zero_iff_lt w rfl).trans Nat.lt_succ_iff

theorem operandsLegal_rdsDecode_iff : operandsLegal .rdsDecode s = true ↔ ∀ k : Fin 4, s.larg[k].toNat ≤ 0xFFFF := by
  simp only [operandsLegal, operandForms, List.all_cons, List.all_nil, Bool.and_true, Bool.and_eq_true,
    formLegal_block_iff, Fin.forall_fin_succ, IsEmpty.forall_iff, and_true]
  rfl

theorem halfOperand_eq_setWidth (k : Fin 4) (s : State) : halfOperand k s = s.larg[k].setWidth 16 :=
  (BitVec.setWidth_eq_extractLsb' (by decide)).symm

theorem exec_rdsDecode {handled : Bool} {t : State} (legal : operandsLegal .rdsDecode s = true)
    (h : decodeGroup (halfOperand 0 s) (halfOperand 1 s) (halfOperand 2 s) (halfOperand 3 s) s = (handled, t)) :
    exec .rdsDecode s = .next { t with result := if handled then 1 else 0, err := .ok } :=
  (guarded_legal .rdsDecode s _ legal rfl).trans (by rw [h]; rfl)

end

/-- Settles O48: the operands, the decode they name, and the codes without a handler. -/
theorem rdsDecodeDecodesTheOperands : Obligations.RdsDecodeDecodesTheOperands := by
  refine ⟨rfl, fun s => ⟨?_, fun legal handled t decoded => ?_⟩,
    fun a b c d s h0 h1 h4 h5 => decodeGroup_of_unhandled h0 h1 h4 h5 a c d s⟩
  · rintro ⟨k, above⟩
    exact exec_of_illegal_operand fun legal => above.not_ge (operandsLegal_rdsDecode_iff.mp legal k)
  · refine exec_rdsDecode (operandsLegal_rdsDecode_iff.mpr legal) ?_
    simp only [halfOperand_eq_setWidth]
    exact decoded

/-- Settles O52: there is no operand and no phase to check, and RE_STATE is not the decoder's. -/
theorem rdsResetBlanksTheDecoder : Obligations.RdsResetBlanksTheDecoder :=
  ⟨rfl, fun s => guarded_legal .rdsReset s _ rfl rfl⟩

end Sys2Proof.Machine
